-- ==== Sys2Proof/Word.lean ====
section
/-! DEFINITION. The widths of the values the bus carries (spec/00_scope.md rule R8): a register and a bus address are
8 bits, and a frame word (spec/30_encoding.md rule R48) is 16 bits. Bit 0 is the least significant bit (rule R10). -/

namespace Sys2Proof

/-- A register byte or a bus address: 8 bits (rule R8). -/
abbrev Byte := BitVec 8

/-- A frame word `{A, W}` (rule R48): bits 15:8 the wire address, bits 7:0 the wire data byte. -/
abbrev FrameWord := BitVec 16

end Sys2Proof
end

