-- ==== Sys2Proof/Config.lean ====
section
/-! DEFINITION. The configuration record `Cfg` of spec/00_scope.md rule R7, and the free values: the levels a device
drives on DataIn and the values of the host's time source that nobody has scripted (rule R14, rule R12). -/

namespace Sys2Proof

/-- `ADDR_MODE` (rules R7, R51): how the address byte is masked before the address phase. -/
inductive AddrMode where
  | or7
  | and7
deriving DecidableEq, Repr

/-- `RX_ORDER` (rules R7, R54): which bit of the received byte each data-phase sample fills. -/
inductive RxOrder where
  | msbFirst
  | lsbFirst
deriving DecidableEq, Repr

/-- `DELAY_UNIT` (rule R7): the unit of `BIT_DELAY`. -/
inductive DelayUnit where
  | us
  | ms
deriving DecidableEq, Repr

/-- `BTN_POS` (rules R7, R57): the bit index of each named field of ButtonsView. The indices are plain numbers, so that
a record out of range or with two equal indices can be written down and rejected at reset (rule R9). -/
structure BtnPos where
  p1Start : Nat
  p2Start : Nat
  vefx : Nat
  effect : Nat
  creditCounter : Nat
deriving DecidableEq, Repr

/-- The configuration record of rule R7, latched by `RESET` and constant until the next one. Fields are raw, so that an
invalid record can be given to `RESET` and rejected there (rules R9, R122). -/
structure Cfg where
  addrMode : AddrMode
  invertTx : Bool
  rxOrder : RxOrder
  /-- `BIT_DELAY`: the length of each hold of a bit cell, in `delayUnit`s. -/
  bitDelay : Nat
  delayUnit : DelayUnit
  /-- `TIME_W`: the width in bits of the time values and of both intervals. -/
  timeW : Nat
  scrollInterval : Nat
  animInterval : Nat
  /-- `TEXT`: 64 bytes. -/
  text : List Byte
  textLen : Nat
  btnPos : BtnPos
  neonBit : Nat
  /-- `NEON_FN`, a function from animation index 0..7 to Bool, held as plain data: bit `k` is its value at `k`. -/
  neonFn : BitVec 8
  /-- `PIN_CLK`, `PIN_EN`, `PIN_DOUT`, `PIN_DIN`: pin identifiers, which no rule reads. -/
  pinClk : Nat
  pinEn : Nat
  pinDout : Nat
  pinDin : Nat
deriving DecidableEq, Repr

/-- The level DataIn is found at in the `n`-th sample since power-up, where the environment has scripted none: a draw with
no law (rule R14, decision D34; assumption log 3). -/
opaque Config.freeSample : Nat → Bool

/-- The `n`-th value of the host's time source, where the environment has scripted none (rules R12, R106; assumption
log 3). -/
opaque Config.freeTime : Nat → Nat

/-- What lies at index `j` of a text buffer that is too short to have an index `j`; a valid configuration has none such
(rules R9, R111; assumption log 10). -/
opaque Config.freeTextByte : Nat → Byte

/-- The vector configuration `cfgA` of spec/95_test_vectors.md, with the symbolic `T` and the pin identifiers, which no
rule reads, set to 1 and 0..3. DESIGN CHOICE: `State.reset` uses it (assumption log 2). -/
def Config.vectorCfg : Cfg where
  addrMode := .or7
  invertTx := false
  rxOrder := .msbFirst
  bitDelay := 1
  delayUnit := .us
  timeW := 32
  scrollInterval := 100
  animInterval := 50
  text := [0x48, 0x45, 0x4C, 0x4C, 0x4F, 0x20, 0x2D, 0x20, 0x57, 0x4F, 0x52, 0x4C, 0x44, 0x20, 0x21]
    ++ List.replicate 49 0
  textLen := 15
  btnPos := { p1Start := 0, p2Start := 1, vefx := 2, effect := 3, creditCounter := 4 }
  neonBit := 0
  neonFn := 0
  pinClk := 0
  pinEn := 1
  pinDout := 2
  pinDin := 3

end Sys2Proof
end

