-- ==== Sys2Proof/Syntax.lean ====
section
/-! DEFINITION. The syntax: the 18 register names (spec/20_memory.md rule R40), the views' fields (spec/30_encoding.md
rules R55 to R60), the fields `PEEK` may be asked for (spec/43_poll_cycle.md rule R119), one constructor of `Instr` per
row of spec/opcode_table.json, and the requests a host can make (rules R61, R64). -/

namespace Sys2Proof

/-- The six input registers (rule R40). -/
inductive InputReg where
  | buttons
  | turntableP1
  | turntableP2
  | volumePair12
  | volumePair34
  | volume5
deriving DecidableEq, Repr

/-- The twelve output registers (rule R40). `segment i` is SixteenSegment[i + 1], the register of display cell `i`
(decision D26). -/
inductive OutputReg where
  | buttonLamps
  | segment (cell : Fin 9)
  | spotlights
  | neon
deriving DecidableEq, Repr

/-- A register name of the map (rule R40). -/
inductive RegName where
  | input (r : InputReg)
  | output (r : OutputReg)
deriving DecidableEq, Repr

/-- The views of rule R55. -/
inductive View where
  | raw
  | slider
  | buttons
  | spot
  | neon
deriving DecidableEq, Repr

/-- The named fields of the views (rules R56 to R59). -/
inductive ViewField where
  | first
  | second
  | p1Start
  | p2Start
  | vefx
  | effect
  | creditCounter
  | lamp (k : Fin 8)
  | neonOn
deriving DecidableEq, Repr

/-- A SliderView (rule R56). -/
structure SliderView where
  first : BitVec 4
  second : BitVec 4
deriving DecidableEq, Repr

/-- A ButtonsView (rule R57). -/
structure ButtonsView where
  p1Start : Bool
  p2Start : Bool
  vefx : Bool
  effect : Bool
  creditCounter : Bool
deriving DecidableEq, Repr

/-- A SpotlightsView: eight independent lamps (rule R58). -/
structure SpotView where
  lamp0 : Bool
  lamp1 : Bool
  lamp2 : Bool
  lamp3 : Bool
  lamp4 : Bool
  lamp5 : Bool
  lamp6 : Bool
  lamp7 : Bool
deriving DecidableEq, Repr

/-- What `PEEK` may be asked for: the readable fields of rule R119, a named field of a register read through a view, and
the state fields that rule R119 does not list (which `PEEK` refuses with `ARG_RANGE`). -/
inductive PeekField where
  | snapshot (r : InputReg)
  | named (r : RegName) (f : ViewField)
  | lastRx
  | lastAck
  | cursor
  | animIdx
  | mode
  | fault
  | lastScroll
  | lastAnim
  | clk
  | enN
  | dout
  | phase
  | bitn
  | txAddr
  | txData
  | rx
  | ack
  | seq
  | cfg
deriving DecidableEq, Repr

/-- The operations: one constructor per row of spec/opcode_table.json. An operand whose width the operation itself checks
(rule R120, `ARG_RANGE`) is a plain number; every other operand has the type of its width. `w` in a frame is the wire
data byte of its frame word (rule R48). -/
inductive Instr where
  -- bus frames, one per register, and the frame that selects none (rules R48, R62, R63)
  | frameButtons (w : Byte)
  | frameTurntableP1 (w : Byte)
  | frameTurntableP2 (w : Byte)
  | frameVolumePair12 (w : Byte)
  | frameVolumePair34 (w : Byte)
  | frameVolume5 (w : Byte)
  | frameButtonLamps (w : Byte)
  | frameSixteenSegment1 (w : Byte)
  | frameSixteenSegment2 (w : Byte)
  | frameSixteenSegment3 (w : Byte)
  | frameSixteenSegment4 (w : Byte)
  | frameSixteenSegment5 (w : Byte)
  | frameSixteenSegment6 (w : Byte)
  | frameSixteenSegment7 (w : Byte)
  | frameSixteenSegment8 (w : Byte)
  | frameSixteenSegment9 (w : Byte)
  | frameSpotlights (w : Byte)
  | frameNeon (w : Byte)
  | frameUnassigned (a w : Byte)
  -- host operations (rule R61)
  | reset (cfg : Cfg) (t0 : Nat)
  | transfer (a d : Nat)
  | readReg (r : RegName)
  | writeReg (r : RegName) (v : Nat)
  | tick
  | peek (f : PeekField)
  -- the transport's primitives (rules R68 to R71)
  | writeBit (b : Bool)
  | readBit
  | xferBit (b : Bool)
  | sampleAck
  -- the register map and the views (rules R85 to R95)
  | addrOf (r : RegName)
  | regOf (a : Byte)
  | decodeRaw (b : Byte)
  | encodeRaw (b : Byte)
  | decodeSlider (b : Byte)
  | encodeSlider (first second : Nat)
  | decodeButtons (b : Byte)
  | encodeButtons (v : ButtonsView)
  | decodeSpot (b : Byte)
  | encodeSpot (v : SpotView)
  | decodeNeon (b : Byte)
  | encodeNeon (on : Bool)
  -- the schedulers (rules R109 to R116)
  | scrollStep (t : Nat)
  | render (i : Fin 9)
  | chaseStep (t : Nat)
  | spotByte (k : Fin 8)
  | neonByte (k : Fin 8)
  -- the assembly pseudo-instructions (rule R64); `seg i c` is `SEG i+1, c`
  | lamp (k : Fin 8)
  | seg (cell : Fin 9) (code : Nat)
  | neon (on : Bool)
deriving DecidableEq, Repr

/-- What a host can ask for: a bus frame by its frame word, one of the six operations of rule R61, or a pseudo-instruction
of rule R64. The sub-operations have no constructor here, for "the host cannot request" them "alone" (rules R61, R65). -/
inductive Request where
  | frame (word : FrameWord)
  | reset (cfg : Cfg) (t0 : Nat)
  | transfer (a d : Nat)
  | readReg (r : RegName)
  | writeReg (r : RegName) (v : Nat)
  | tick
  | peek (f : PeekField)
  | lamp (k : Fin 8)
  | seg (cell : Fin 9) (code : Nat)
  | neon (on : Bool)
deriving DecidableEq, Repr

end Sys2Proof
end

