-- ==== Sys2Proof/Machine/State.lean ====
section
/-! DEFINITION. The state (spec/10_state.md rule R15) as plain data, and the machine right after reset (rule R33). -/

namespace Sys2Proof.Machine

/-- The level of an output line (rule R16): `undriven` before the first reset, when "the engine drives no line" (rule
R136), else the last level driven. -/
inductive LineLevel where
  | undriven
  | driven (level : Bool)
deriving DecidableEq, Repr

/-- `S.phase` (rule R19): which part of a transfer is under way. -/
inductive Phase where
  | idle
  | addr
  | ack
  | data
deriving DecidableEq, Repr

/-- `S.seq` (rule R27): idle, or the number 0..16 of the transfer of a tick under way. -/
inductive SeqPos where
  | idle
  | transfer (n : Fin 17)
deriving DecidableEq, Repr

/-- `S.mode` (rule R28). -/
inductive Mode where
  | unconfigured
  | ready
  | busy
  | faulted
deriving DecidableEq, Repr

/-- The fault reasons of rule R123. -/
inductive FaultReason where
  | config
  | unwritten
deriving DecidableEq, Repr

/-- The refusal reasons of rule R124. -/
inductive RefuseReason where
  | notReady
  | direction
  | argRange
  | pairing
deriving DecidableEq, Repr

/-- The line events of rule R13. -/
inductive Event where
  | en (v : Bool)
  | clk (v : Bool)
  | dout (v : Bool)
  | wait (d : Nat)
  | sample (v : Bool)
deriving DecidableEq, Repr

/-- What the last operation handed back (spec/70_reset_and_hazards.md rule R145, "the host gets back"): its result, the
refusal of rule R124, or the fault of rule R123. A field of the model: see assumption log 4. -/
inductive Reply where
  | nothing
  | done
  | refused (r : RefuseReason)
  | faulted (r : FaultReason)
  | rxAck (rx : Byte) (ack : Bool)
  | byte (b : Byte)
  | bit (b : Bool)
  | nibble (n : BitVec 4)
  | register (r : Option RegName)
  | slider (v : SliderView)
  | buttons (v : ButtonsView)
  | spot (v : SpotView)
  | cursor (c : Nat)
  | animIdx (k : Fin 8)
  | mode (m : Mode)
  | fault (f : Option FaultReason)
deriving DecidableEq, Repr

/-- The draws of one input (rule R14): the values the environment has scripted for the next ones, and how many have been
drawn. A field of the model: see assumption log 3. -/
structure Draws (α : Type) where
  script : List α
  drawn : Nat
deriving DecidableEq, Repr

/-- The engine's state `S` with `Cfg` beside it, and the model's own fields for what lies outside the engine. -/
structure State where
  /-- `Cfg` (rules R7, R30). -/
  cfg : Cfg
  /-- `S.clk` (rule R16). -/
  clk : LineLevel
  /-- `S.en_n` (rule R16): 0 = asserted. -/
  enN : LineLevel
  /-- `S.dout` (rule R16). -/
  dout : LineLevel
  /-- `S.phase` (rule R19). -/
  phase : Phase
  /-- `S.bitn` (rule R19). -/
  bitn : Fin 8
  /-- `S.tx_addr` (rule R19). -/
  txAddr : Byte
  /-- `S.tx_data` (rule R19). -/
  txData : Byte
  /-- `S.rx` (rule R19). -/
  rx : Byte
  /-- `S.ack` (rules R19, R21). -/
  ack : Bool
  /-- `S.last_rx` (rule R20): a byte or no value. -/
  lastRx : Option Byte
  /-- `S.last_ack` (rule R20): a bit or no value. -/
  lastAck : Option Bool
  /-- `S.snap_buttons` (rule R22): a byte or no value, as the five after it. -/
  snapButtons : Option Byte
  /-- `S.snap_tt1` (rule R22). -/
  snapTt1 : Option Byte
  /-- `S.snap_tt2` (rule R22). -/
  snapTt2 : Option Byte
  /-- `S.snap_vol12` (rule R22). -/
  snapVol12 : Option Byte
  /-- `S.snap_vol34` (rule R22). -/
  snapVol34 : Option Byte
  /-- `S.snap_vol5` (rule R22). -/
  snapVol5 : Option Byte
  /-- `S.cursor` (rule R24): 0..63. -/
  cursor : Nat
  /-- `S.last_scroll` (rule R24): a `TIME_W`-bit time value. -/
  lastScroll : Nat
  /-- `S.anim_idx` (rule R25). -/
  animIdx : Fin 8
  /-- `S.last_anim` (rule R25): a `TIME_W`-bit time value. -/
  lastAnim : Nat
  /-- `S.seq` (rule R27). -/
  seq : SeqPos
  /-- `S.mode` (rule R28). -/
  mode : Mode
  /-- `S.fault` (rule R29): a reason or no value. -/
  fault : Option FaultReason
  /-- The model's: the line events so far, newest first. The trace of rule R13 is `State.trace`. -/
  events : List Event
  /-- The model's: the DataIn samples to come (rules R14, R17). -/
  dataIn : Draws Bool
  /-- The model's: the values of the host's time source to come (rules R12, R106). -/
  time : Draws Nat
  /-- The model's: what the host has asked for and the engine has not begun (rules R137, R141). -/
  requests : List Request
  /-- The model's: what the last operation handed back. -/
  reply : Reply
deriving DecidableEq, Repr

/-- Why the machine stops. No constructor: the engine's faults (rule R123) are states it goes on from, held in
`State.fault` and `State.mode`, and the spec names no other (rule R120: "The engine never traps"). -/
inductive Fault where
deriving DecidableEq, Repr

/-- Why an operation has no meaning. The engine's own refusals (rule R124) are next states that change nothing, not
these. -/
inductive Refusal where
  /-- Raised only by an arm of `exec` whose operation has no meaning yet. No arm is such. Safe. -/
  | notModelled (mnemonic : String)
deriving DecidableEq, Repr

/-- The trace of rule R13: the line events in the order they happened. -/
def State.trace (s : State) : List Event := s.events.reverse

/-- Before the first reset (rule R136): the mode is `UNCONFIGURED`, no line is driven, and no other field has a value. A
field whose type has no "no value" holds one that nothing can read (assumption log 5). -/
def State.powerUp : State where
  cfg := Config.vectorCfg
  clk := .undriven
  enN := .undriven
  dout := .undriven
  phase := .idle
  bitn := 0
  txAddr := 0
  txData := 0
  rx := 0
  ack := false
  lastRx := none
  lastAck := none
  snapButtons := none
  snapTt1 := none
  snapTt2 := none
  snapVol12 := none
  snapVol34 := none
  snapVol5 := none
  cursor := 0
  lastScroll := 0
  animIdx := 0
  lastAnim := 0
  seq := .idle
  mode := .unconfigured
  fault := none
  events := []
  dataIn := { script := [], drawn := 0 }
  time := { script := [], drawn := 0 }
  requests := []
  reply := .nothing

/-- The state after a reset with a valid `Cfg` (rule R33): here `Config.vectorCfg` at time 0 (assumption log 2). The five
datapath fields that reset gives no value hold 0 (assumption log 5). -/
def State.reset : State where
  cfg := Config.vectorCfg
  clk := .driven true
  enN := .driven true
  dout := .driven false
  phase := .idle
  bitn := 0
  txAddr := 0
  txData := 0
  rx := 0
  ack := false
  lastRx := none
  lastAck := none
  snapButtons := none
  snapTt1 := none
  snapTt2 := none
  snapVol12 := none
  snapVol34 := none
  snapVol5 := none
  cursor := 0
  lastScroll := 0
  animIdx := 0
  lastAnim := 0
  seq := .idle
  mode := .ready
  fault := none
  events := [.dout false, .clk true, .en true]
  dataIn := { script := [], drawn := 0 }
  time := { script := [], drawn := 0 }
  requests := []
  reply := .done

end Sys2Proof.Machine
end

