-- ==== Sys2Proof/Decode.lean ====
section
/-! DEFINITION. The encodings: the register map between names and addresses (spec/20_memory.md rule R40, spec/42_views.md
rules R85, R86), the decoder of bus frames (spec/30_encoding.md rules R48, R50, R62) and, after it, the encoder. The bus
frame is the only binary encoding (rule R62): an operation that is no frame has none. -/

namespace Sys2Proof

/-- The register id column of rule R40: bits 7:3 of the table address. -/
def regId : RegName → Nat
  | .input .buttons => 0
  | .input .turntableP1 => 1
  | .input .turntableP2 => 2
  | .input .volumePair12 => 3
  | .input .volumePair34 => 4
  | .input .volume5 => 5
  | .output .buttonLamps => 6
  | .output (.segment i) => 7 + i
  | .output .spotlights => 16
  | .output .neon => 17

/-- The register with a given id (rule R40); ids 18..31 name none (rule R41). -/
def regOfId : Nat → Option RegName
  | 0 => some (.input .buttons)
  | 1 => some (.input .turntableP1)
  | 2 => some (.input .turntableP2)
  | 3 => some (.input .volumePair12)
  | 4 => some (.input .volumePair34)
  | 5 => some (.input .volume5)
  | 6 => some (.output .buttonLamps)
  | 7 => some (.output (.segment 0))
  | 8 => some (.output (.segment 1))
  | 9 => some (.output (.segment 2))
  | 10 => some (.output (.segment 3))
  | 11 => some (.output (.segment 4))
  | 12 => some (.output (.segment 5))
  | 13 => some (.output (.segment 6))
  | 14 => some (.output (.segment 7))
  | 15 => some (.output (.segment 8))
  | 16 => some (.output .spotlights)
  | 17 => some (.output .neon)
  | _ => none

/-- `ADDR_OF` (rule R85): the table address `(id << 3) | 0x07`. -/
def tableAddr (r : RegName) : Byte := (BitVec.ofNat 8 (regId r) <<< 3) ||| 0x07

/-- `REG_OF` (rule R86): the register a wire address selects, or none. -/
def regAt (a : Byte) : Option RegName :=
  if a.extractLsb' 0 3 = 0b111 then regOfId (a.extractLsb' 3 5).toNat else none

/-- Bits 15:8 of a frame word: the wire address (rule R48). -/
def frameAddr (f : FrameWord) : Byte := f.extractLsb' 8 8

/-- Bits 7:0 of a frame word: the wire data byte (rule R48). -/
def frameData (f : FrameWord) : Byte := f.extractLsb' 0 8

/-- The frame of one register with wire data byte `w`: a row of spec/opcode_table.json. -/
def frameOf (r : RegName) (w : Byte) : Instr :=
  match r with
  | .input .buttons => .frameButtons w
  | .input .turntableP1 => .frameTurntableP1 w
  | .input .turntableP2 => .frameTurntableP2 w
  | .input .volumePair12 => .frameVolumePair12 w
  | .input .volumePair34 => .frameVolumePair34 w
  | .input .volume5 => .frameVolume5 w
  | .output .buttonLamps => .frameButtonLamps w
  | .output (.segment 0) => .frameSixteenSegment1 w
  | .output (.segment 1) => .frameSixteenSegment2 w
  | .output (.segment 2) => .frameSixteenSegment3 w
  | .output (.segment 3) => .frameSixteenSegment4 w
  | .output (.segment 4) => .frameSixteenSegment5 w
  | .output (.segment 5) => .frameSixteenSegment6 w
  | .output (.segment 6) => .frameSixteenSegment7 w
  | .output (.segment 7) => .frameSixteenSegment8 w
  | .output (.segment 8) => .frameSixteenSegment9 w
  | .output .spotlights => .frameSpotlights w
  | .output .neon => .frameNeon w

/-- The frame a frame word is: "a frame word `{A, W}` selects register id `A[7:3]` when `A[2:0] = 0b111` and
`A[7:3] <= 17`, and selects no register otherwise" (rule R62). Total: no frame is illegal (rule R63). -/
def decodeFrame (f : FrameWord) : Instr :=
  match regAt (frameAddr f) with
  | some r => frameOf r (frameData f)
  | none => .frameUnassigned (frameAddr f) (frameData f)

/-- Why a byte string is no frame: every frame has the same length (rule R49), one address byte and one data byte. -/
inductive DecodeError where
  /-- Fewer than two bytes. -/
  | truncated
  /-- Bytes left over after the two of a frame. -/
  | trailing
deriving DecidableEq, Repr

/-- What decoding a byte string gives. -/
inductive Decoded where
  | instr (i : Instr)
  | rejected (e : DecodeError)
deriving DecidableEq, Repr

/-- The frame a byte string is, in the order the bus sends it: the address byte, then the data byte (rules R37, R48). -/
def decode : List Byte → Decoded
  | [a, w] => .instr (decodeFrame (a ++ w))
  | [] => .rejected .truncated
  | [_] => .rejected .truncated
  | _ :: _ :: _ :: _ => .rejected .trailing

/-- The frame word `{A, W}` of a frame; none for an operation that has no binary encoding (rule R62). -/
def encode : Instr → Option FrameWord
  | .frameButtons w => some (0x07#8 ++ w)
  | .frameTurntableP1 w => some (0x0F#8 ++ w)
  | .frameTurntableP2 w => some (0x17#8 ++ w)
  | .frameVolumePair12 w => some (0x1F#8 ++ w)
  | .frameVolumePair34 w => some (0x27#8 ++ w)
  | .frameVolume5 w => some (0x2F#8 ++ w)
  | .frameButtonLamps w => some (0x37#8 ++ w)
  | .frameSixteenSegment1 w => some (0x3F#8 ++ w)
  | .frameSixteenSegment2 w => some (0x47#8 ++ w)
  | .frameSixteenSegment3 w => some (0x4F#8 ++ w)
  | .frameSixteenSegment4 w => some (0x57#8 ++ w)
  | .frameSixteenSegment5 w => some (0x5F#8 ++ w)
  | .frameSixteenSegment6 w => some (0x67#8 ++ w)
  | .frameSixteenSegment7 w => some (0x6F#8 ++ w)
  | .frameSixteenSegment8 w => some (0x77#8 ++ w)
  | .frameSixteenSegment9 w => some (0x7F#8 ++ w)
  | .frameSpotlights w => some (0x87#8 ++ w)
  | .frameNeon w => some (0x8F#8 ++ w)
  | .frameUnassigned a w => some (a ++ w)
  | .reset _ _ => none
  | .transfer _ _ => none
  | .readReg _ => none
  | .writeReg _ _ => none
  | .tick => none
  | .peek _ => none
  | .writeBit _ => none
  | .readBit => none
  | .xferBit _ => none
  | .sampleAck => none
  | .addrOf _ => none
  | .regOf _ => none
  | .decodeRaw _ => none
  | .encodeRaw _ => none
  | .decodeSlider _ => none
  | .encodeSlider _ _ => none
  | .decodeButtons _ => none
  | .encodeButtons _ => none
  | .decodeSpot _ => none
  | .encodeSpot _ => none
  | .decodeNeon _ => none
  | .encodeNeon _ => none
  | .scrollStep _ => none
  | .render _ => none
  | .chaseStep _ => none
  | .spotByte _ => none
  | .neonByte _ => none
  | .lamp _ => none
  | .seg _ _ => none
  | .neon _ => none

/-- The two bytes of a frame in the order the bus sends them. -/
def encodeBytes (i : Instr) : Option (List Byte) :=
  (encode i).map fun f => [frameAddr f, frameData f]

/-- The frame word of a table word: the bits of `w` below `nbits`, as spec/opcode_table.json numbers them (bits 15:8 the
address byte), every bit above zero. -/
def tableFrame (nbits w : Nat) : FrameWord := BitVec.ofNat 16 (w % 2 ^ nbits)

/-- The instruction the decoder reads from an opcode-table word: its two bytes, address byte first. A table row of no bits
or of more than 16 has no frame word. -/
def decodeTableWord (nbits w : Nat) : Option Instr :=
  if nbits = 0 ∨ 16 < nbits then none
  else
    match decode [frameAddr (tableFrame nbits w), frameData (tableFrame nbits w)] with
    | .instr i => some i
    | .rejected _ => none

/-- The operation a request asks for: a frame by decoding its word, every other one under its own name (rules R61, R64). -/
def Request.instr : Request → Instr
  | .frame f => decodeFrame f
  | .reset cfg t0 => .reset cfg t0
  | .transfer a d => .transfer a d
  | .readReg r => .readReg r
  | .writeReg r v => .writeReg r v
  | .tick => .tick
  | .peek f => .peek f
  | .lamp k => .lamp k
  | .seg cell code => .seg cell code
  | .neon on => .neon on

end Sys2Proof
end

