-- ==== Sys2Proof/Machine/Flags.lean ====
section
/-! DEFINITION. The one status flag of the engine, the acknowledgment (spec/10_state.md rule R21): there are no condition
codes. -/

namespace Sys2Proof.Machine

/-- The acknowledgment that a DataIn sample means (rules R21, R75): "a logic-low reading denotes acknowledgment". -/
def ackOf (sample : Bool) : Bool := !sample

end Sys2Proof.Machine
end

