-- ==== Sys2Proof/Machine/Operands.lean ====
section
/-! DEFINITION. Every computation over operands that reads only the operands and `Cfg`: which configurations are valid
(spec/00_scope.md rule R9), the wire bytes (spec/30_encoding.md rules R51 to R54), the views (spec/42_views.md rules R87 to
R95), the time arithmetic and the bytes the schedulers send (spec/44_schedulers.md rules R107, R111, R115, R116). -/

namespace Sys2Proof.Machine

/-! ### Configuration -/

/-- The five `BTN_POS` indices, in the order rule R57 names them. -/
def btnIndices (p : BtnPos) : List Nat :=
  [p.p1Start, p.p2Start, p.vefx, p.effect, p.creditCounter]

/-- A valid `Cfg` (rule R9): `1 <= TEXT_LEN <= 64`, five distinct `BTN_POS` indices, and every field in its type's range
(rules R7, R30). -/
def cfgValid (c : Cfg) : Bool :=
  decide (1 ≤ c.textLen) && decide (c.textLen ≤ 64) && decide (c.text.length = 64)
    && decide (btnIndices c.btnPos).Nodup && (btnIndices c.btnPos).all (fun i => decide (i ≤ 7))
    && decide (c.neonBit ≤ 7) && decide (1 ≤ c.timeW)
    && decide (c.scrollInterval < 2 ^ c.timeW) && decide (c.animInterval < 2 ^ c.timeW)

/-! ### Time -/

/-- `N = 2^TIME_W` (spec/44_schedulers.md). -/
def timeModulus (c : Cfg) : Nat := 2 ^ c.timeW

/-- A time value is the low `TIME_W` bits of the host's true time (rules R106, R140). -/
def timeValue (c : Cfg) (t : Nat) : Nat := t % timeModulus c

/-- `elapsed(t, last) = (t - last) mod N` (rule R107). -/
def elapsed (c : Cfg) (t last : Nat) : Nat := (((t : Int) - (last : Int)) % (timeModulus c : Int)).toNat

/-! ### The wire bytes -/

/-- The wire address `A` of an address `a` (rule R51). The address byte is never inverted (rule R52). -/
def wireAddr (c : Cfg) (a : Byte) : Byte :=
  match c.addrMode with
  | .or7 => a ||| 0x07
  | .and7 => a &&& 0x07

/-- The wire data byte `W` of a data byte `d` (rule R53). The policy is its own inverse: the data byte whose wire byte is
`W` is `wireData c W`. -/
def wireData (c : Cfg) (d : Byte) : Byte := if c.invertTx then ~~~d else d

/-- The data byte a read sends, before `INVERT_TX` (rule R82). -/
def readFiller : Byte := 0x00

/-- The byte with bit `n` equal to `b` and every other bit 0: `b << n` (rule R11). -/
def bitAt (b : Bool) (n : Nat) : Byte := (if b then 1#8 else 0#8) <<< n

/-- The bit position that the `k`-th data-phase sample fills (rules R54, R76). -/
def rxPos (c : Cfg) (k : Fin 8) : Nat :=
  match c.rxOrder with
  | .msbFirst => 7 - k
  | .lsbFirst => k

/-! ### The views -/

/-- The one view of each register (rule R55). -/
def viewOf : RegName → View
  | .input .buttons => .buttons
  | .input .turntableP1 => .raw
  | .input .turntableP2 => .raw
  | .input .volumePair12 => .slider
  | .input .volumePair34 => .slider
  | .input .volume5 => .slider
  | .output .buttonLamps => .raw
  | .output (.segment _) => .raw
  | .output .spotlights => .spot
  | .output .neon => .neon

/-- The view a named field belongs to (rules R56 to R59). -/
def fieldView : ViewField → View
  | .first => .slider
  | .second => .slider
  | .p1Start => .buttons
  | .p2Start => .buttons
  | .vefx => .buttons
  | .effect => .buttons
  | .creditCounter => .buttons
  | .lamp _ => .spot
  | .neonOn => .neon

/-- `DECODE_RAW` (rule R87). -/
def rawDecode (b : Byte) : Byte := b

/-- `ENCODE_RAW` (rule R87). -/
def rawEncode (b : Byte) : Byte := b

/-- `DECODE_SLIDER` (rule R88): `first = b[3:0]`, `second = b[7:4]`. -/
def sliderDecode (b : Byte) : SliderView where
  first := b.extractLsb' 0 4
  second := b.extractLsb' 4 4

/-- `ENCODE_SLIDER` (rule R89): `(second << 4) | first`. -/
def sliderEncode (v : SliderView) : Byte := (v.second.setWidth 8 <<< 4) ||| v.first.setWidth 8

/-- `DECODE_BUTTONS` (rule R90). -/
def buttonsDecode (c : Cfg) (b : Byte) : ButtonsView where
  p1Start := b.getLsbD c.btnPos.p1Start
  p2Start := b.getLsbD c.btnPos.p2Start
  vefx := b.getLsbD c.btnPos.vefx
  effect := b.getLsbD c.btnPos.effect
  creditCounter := b.getLsbD c.btnPos.creditCounter

/-- `ENCODE_BUTTONS` (rule R91): the unused bits are 0. -/
def buttonsEncode (c : Cfg) (v : ButtonsView) : Byte :=
  bitAt v.p1Start c.btnPos.p1Start ||| bitAt v.p2Start c.btnPos.p2Start ||| bitAt v.vefx c.btnPos.vefx
    ||| bitAt v.effect c.btnPos.effect ||| bitAt v.creditCounter c.btnPos.creditCounter

/-- `pos(k)` (rule R58): the bit of lamp `k` in the Spotlights byte. -/
def spotPos (k : Fin 8) : Nat := if (k : Nat) < 4 then 4 + k else 7 - k

/-- `DECODE_SPOT` (rule R92): `lampk = b[pos(k)]`. -/
def spotDecode (b : Byte) : SpotView where
  lamp0 := b.getLsbD (spotPos 0)
  lamp1 := b.getLsbD (spotPos 1)
  lamp2 := b.getLsbD (spotPos 2)
  lamp3 := b.getLsbD (spotPos 3)
  lamp4 := b.getLsbD (spotPos 4)
  lamp5 := b.getLsbD (spotPos 5)
  lamp6 := b.getLsbD (spotPos 6)
  lamp7 := b.getLsbD (spotPos 7)

/-- `ENCODE_SPOT` (rule R93): OR over `k` of `lampk << pos(k)`. -/
def spotEncode (v : SpotView) : Byte :=
  bitAt v.lamp0 (spotPos 0) ||| bitAt v.lamp1 (spotPos 1) ||| bitAt v.lamp2 (spotPos 2) ||| bitAt v.lamp3 (spotPos 3)
    ||| bitAt v.lamp4 (spotPos 4) ||| bitAt v.lamp5 (spotPos 5) ||| bitAt v.lamp6 (spotPos 6) ||| bitAt v.lamp7 (spotPos 7)

/-- The SpotlightsView with only lamp `k` set. -/
def onlyLamp (k : Fin 8) : SpotView where
  lamp0 := k == 0
  lamp1 := k == 1
  lamp2 := k == 2
  lamp3 := k == 3
  lamp4 := k == 4
  lamp5 := k == 5
  lamp6 := k == 6
  lamp7 := k == 7

/-- Lamp `k` of a SpotlightsView. -/
def lampOf (v : SpotView) : Fin 8 → Bool
  | 0 => v.lamp0
  | 1 => v.lamp1
  | 2 => v.lamp2
  | 3 => v.lamp3
  | 4 => v.lamp4
  | 5 => v.lamp5
  | 6 => v.lamp6
  | 7 => v.lamp7

/-- `DECODE_NEON` (rule R94). -/
def neonDecode (c : Cfg) (b : Byte) : Bool := b.getLsbD c.neonBit

/-- `ENCODE_NEON` (rule R95). -/
def neonEncode (c : Cfg) (on : Bool) : Byte := bitAt on c.neonBit

/-! ### The bytes the schedulers send -/

/-- `TEXT[j]` (rule R31). -/
def textByte (c : Cfg) (j : Nat) : Byte := c.text.getD j (Config.freeTextByte j)

/-- The blank of rule R111. -/
def blankByte : Byte := 0x20

/-- `RENDER(i)` with the cursor at `cursor` (rule R111): `cursor + i` is computed without wrap. -/
def renderByte (c : Cfg) (cursor : Nat) (i : Fin 9) : Byte :=
  if cursor + i < c.textLen then textByte c (cursor + i) else blankByte

/-- `SPOT_BYTE(k) = ENCODE_SPOT(lamp k only)` (rule R115). -/
def spotByteOf (k : Fin 8) : Byte := spotEncode (onlyLamp k)

/-- `NEON_BYTE(k) = ENCODE_NEON(Cfg.NEON_FN(k))` (rule R116). -/
def neonByteOf (c : Cfg) (k : Fin 8) : Byte := neonEncode c (c.neonFn.getLsbD k)

end Sys2Proof.Machine
end

