-- ==== Sys2Proof/Machine/Ops.lean ====
section
/-! DEFINITION. The shared operations: drawing an input, the line capabilities (spec/40_transport.md), one transfer
(spec/41_transfer.md rule R74), the snapshots (spec/10_state.md rule R22), the scheduler steps (spec/44_schedulers.md), the
tick (spec/43_poll_cycle.md rule R99), refusing a request, raising a fault and the reset that leaves it
(spec/60_exceptions.md rules R123, R124, R128; spec/70_reset_and_hazards.md rule R135). -/

namespace Sys2Proof.Machine

/-! ### Draws -/

/-- The `k`-th draw to come, counted from 0: the scripted value, or a free one past the script's end. -/
def Draws.peek {α : Type} (free : Nat → α) (d : Draws α) (k : Nat) : α :=
  d.script.getD k (free (d.drawn + k))

/-- The draws left after `k` of them. -/
def Draws.skip {α : Type} (d : Draws α) (k : Nat) : Draws α :=
  { script := d.script.drop k, drawn := d.drawn + k }

/-- The level that the `k`-th DataIn sample to come will find. -/
def State.sampleAt (s : State) (k : Nat) : Bool := s.dataIn.peek Config.freeSample k

/-- The value that the `k`-th `now()` to come will return: a `TIME_W`-bit one (rule R106). -/
def State.timeAt (s : State) (k : Nat) : Nat := timeValue s.cfg (s.time.peek Config.freeTime k)

/-- `now()` (rule R12). -/
def now (s : State) : Nat × State := (s.timeAt 0, { s with time := s.time.skip 1 })

/-! ### The line capabilities (rule R65) and the primitives (rules R66 to R71) -/

/-- `emit e` (rule R12). -/
def State.emit (s : State) (e : Event) : State := { s with events := e :: s.events }

/-- `setClock(v)`. -/
def setClock (v : Bool) (s : State) : State := ({ s with clk := .driven v }).emit (.clk v)

/-- `setData(v)`. -/
def setData (v : Bool) (s : State) : State := ({ s with dout := .driven v }).emit (.dout v)

/-- `setEnable(v)`. -/
def setEnable (v : Bool) (s : State) : State := ({ s with enN := .driven v }).emit (.en v)

/-- `readInput()`: one draw, recorded in the trace. -/
def readInput (s : State) : Bool × State :=
  (s.sampleAt 0, ({ s with dataIn := s.dataIn.skip 1 }).emit (.sample (s.sampleAt 0)))

/-- `delay()`. -/
def delay (s : State) : State := s.emit (.wait s.cfg.bitDelay)

/-- `cell(b)` (rule R66): clock low, data, delay, clock high, delay. -/
def cell (b : Bool) (s : State) : State := delay (setClock true (delay (setData b (setClock false s))))

/-- `WRITE_BIT(b)` (rule R68). -/
def writeBit (b : Bool) (s : State) : State := cell b s

/-- `READ_BIT()` (rule R69). -/
def readBit (s : State) : Bool × State := readInput (delay (setClock true (delay (setClock false s))))

/-- `XFER_BIT(b)` (rule R70): the sample comes after the cell's second hold. -/
def xferBit (b : Bool) (s : State) : Bool × State := readInput (cell b s)

/-- `SAMPLE_ACK()` (rule R71): no clock edge, no delay. -/
def sampleAck (s : State) : Bool × State := readInput s

/-! ### One transfer (rule R74) -/

/-- The address cell that sends bit `i` of the wire address. -/
def addrCell (A : Byte) (s : State) (i : Fin 8) : State := writeBit (A.getLsbD i) { s with bitn := i }

/-- Step 2 of rule R74: eight cells, bit 7 first. -/
def addrPhase (A : Byte) (s : State) : State :=
  ([7, 6, 5, 4, 3, 2, 1, 0] : List (Fin 8)).foldl (addrCell A) { s with phase := .addr }

/-- Step 3: the acknowledgment sample sets `S.ack` (rule R75). -/
def ackPhase (s : State) : State :=
  let r := sampleAck { s with phase := .ack }
  { r.2 with ack := ackOf r.1 }

/-- The `k`-th data cell: it sends bit `7 - k` of the wire data byte and ORs its sample into `S.rx`. -/
def dataCell (W : Byte) (s : State) (k : Fin 8) : State :=
  let r := xferBit (W.getLsbD (7 - k : Fin 8)) { s with bitn := 7 - k }
  { r.2 with rx := r.2.rx ||| bitAt r.1 (rxPos s.cfg k) }

/-- Step 4: eight cells. -/
def dataPhase (W : Byte) (s : State) : State :=
  ([0, 1, 2, 3, 4, 5, 6, 7] : List (Fin 8)).foldl (dataCell W) { s with phase := .data }

/-- `xfer_body(a, d)` (rule R74). Its result `(rx, ack)` stands in `S.rx` and `S.ack`, and in the result registers (rule
R77). -/
def xferBody (a d : Byte) (s : State) : State :=
  let A := wireAddr s.cfg a
  let W := wireData s.cfg d
  let s1 := { s with txAddr := A, txData := W, rx := 0 }
  let s2 := dataPhase W (ackPhase (addrPhase A (setEnable false s1)))
  let s3 := { setEnable true s2 with phase := .idle }
  { s3 with lastRx := some s3.rx, lastAck := some s3.ack }

/-! ### Snapshots (rule R22) -/

/-- The snapshot of an input register. -/
def State.snapshot (s : State) : InputReg → Option Byte
  | .buttons => s.snapButtons
  | .turntableP1 => s.snapTt1
  | .turntableP2 => s.snapTt2
  | .volumePair12 => s.snapVol12
  | .volumePair34 => s.snapVol34
  | .volume5 => s.snapVol5

/-- `snapshot(r) <- b`. -/
def State.setSnapshot (s : State) (r : InputReg) (b : Byte) : State :=
  match r with
  | .buttons => { s with snapButtons := some b }
  | .turntableP1 => { s with snapTt1 := some b }
  | .turntableP2 => { s with snapTt2 := some b }
  | .volumePair12 => { s with snapVol12 := some b }
  | .volumePair34 => { s with snapVol34 := some b }
  | .volume5 => { s with snapVol5 := some b }

/-- A read of an input register: one transfer with the filler byte, then its snapshot (rules R22, R82), whatever the
acknowledgment. -/
def readInto (r : InputReg) (s : State) : State :=
  let s1 := xferBody (tableAddr (.input r)) readFiller s
  s1.setSnapshot r s1.rx

/-! ### Scheduler steps -/

/-- `SCROLL_STEP(t)` (rule R109). -/
def scrollStep (t : Nat) (s : State) : State :=
  if s.cfg.scrollInterval ≤ elapsed s.cfg t s.lastScroll then
    { s with
      cursor := if s.cursor + 1 = s.cfg.textLen then 0 else s.cursor + 1
      lastScroll := timeValue s.cfg t }
  else s

/-- `CHASE_STEP(t)` (rule R113). -/
def chaseStep (t : Nat) (s : State) : State :=
  if s.cfg.animInterval < elapsed s.cfg t s.lastAnim then
    { s with animIdx := s.animIdx + 1, lastAnim := timeValue s.cfg t }
  else s

/-! ### The tick (rules R99, R100) -/

/-- One read of the poll order, as number `n`. -/
def tickRead (s : State) (nr : Fin 17 × InputReg) : State :=
  readInto nr.2 { s with seq := .transfer nr.1 }

/-- `INPUT_ORDER` with the sequencer's numbers (rule R100, rows 0..5). -/
def inputOrder : List (Fin 17 × InputReg) :=
  [(0, .buttons), (1, .turntableP1), (2, .turntableP2), (3, .volumePair12), (4, .volumePair34), (5, .volume5)]

/-- One write of the poll order, as number `n`. -/
def tickWrite (n : Fin 17) (r : OutputReg) (v : Byte) (s : State) : State :=
  xferBody (tableAddr (.output r)) v { s with seq := .transfer n }

/-- The write of display cell `i`, as number `8 + i` (rules R111, R112). -/
def tickCell (s : State) (ni : Fin 17 × Fin 9) : State :=
  tickWrite ni.1 (.segment ni.2) (renderByte s.cfg s.cursor ni.2) s

/-- The nine display cells with the sequencer's numbers (rule R100, rows 8..16). -/
def cellOrder : List (Fin 17 × Fin 9) :=
  [(8, 0), (9, 1), (10, 2), (11, 3), (12, 4), (13, 5), (14, 6), (15, 7), (16, 8)]

/-- The six reads of a tick. -/
def tickReads (s : State) : State := inputOrder.foldl tickRead s

/-- The chase step at its own time sample, then the Spotlights and Neon writes. -/
def tickLamps (s : State) : State :=
  let r := now s
  let s1 := chaseStep r.1 r.2
  let s2 := tickWrite 6 .spotlights (spotByteOf s1.animIdx) s1
  tickWrite 7 .neon (neonByteOf s2.cfg s2.animIdx) s2

/-- The scroll step at its own time sample, then the nine segment writes. -/
def tickText (s : State) : State :=
  let r := now s
  cellOrder.foldl tickCell (scrollStep r.1 r.2)

/-- The body of `TICK` between `S.mode <- BUSY` and `S.mode <- READY`. -/
def tickBody (s : State) : State := { tickText (tickLamps (tickReads s)) with seq := .idle }

/-! ### How an operation ends -/

/-- The operation ends and hands `r` back. -/
def State.answer (s : State) (r : Reply) : State := { s with reply := r }

/-- The operation ends normally, handing `r` back. -/
def finish (r : Reply) (s : State) : Host.Outcome State Fault Refusal := .next (s.answer r)

/-- `refuse(reason)` (rules R12, R124): "no state changes, no event is emitted, and the engine stays in its mode". The host
is told the reason and the engine goes on: a next state. -/
def refuse (reason : RefuseReason) (s : State) : Host.Outcome State Fault Refusal := .next (s.answer (.refused reason))

/-- `raise Fault(reason)` (rule R123): the engine's one exception. It saves the reason in `S.fault` and enters `FAULTED`;
no event, no vector (rule R127). -/
def raiseFault (reason : FaultReason) (s : State) : Host.Outcome State Fault Refusal :=
  .next (({ s with fault := some reason, mode := .faulted }).answer (.faulted reason))

/-- The assignments of `RESET(cfg, t0)` (rules R33, R135) up to the last test: the only way out of `FAULTED` and
`UNCONFIGURED` (rule R128). -/
def resetCore (cfg : Cfg) (t0 : Nat) (s : State) : State :=
  let s1 := setData false (setClock true (setEnable true { s with cfg := cfg }))
  { s1 with
    phase := .idle
    seq := .idle
    lastRx := none
    lastAck := none
    snapButtons := none
    snapTt1 := none
    snapTt2 := none
    snapVol12 := none
    snapVol34 := none
    snapVol5 := none
    cursor := 0
    lastScroll := t0
    animIdx := 0
    lastAnim := t0
    fault := none }

/-- Run a request that only `READY` accepts (rules R28, R124): refused `NOT_READY` in any other mode. -/
def whenReady (s : State) (k : State → Host.Outcome State Fault Refusal) : Host.Outcome State Fault Refusal :=
  if s.mode = .ready then k s else refuse .notReady s

/-- Run `f` with the mode at `BUSY` and leave it at `READY` (rules R80, R81, R83, R99). -/
def busily (f : State → State) (s : State) : State := { f { s with mode := .busy } with mode := .ready }

/-- `TRANSFER(a, d)` as the host requests it (rule R80). -/
def transferRequest (a d : Nat) (s : State) : Host.Outcome State Fault Refusal :=
  whenReady s fun s =>
    if 0xFF < a ∨ 0xFF < d then refuse .argRange s
    else
      let t := busily (xferBody (BitVec.ofNat 8 a) (BitVec.ofNat 8 d)) s
      finish (.rxAck t.rx t.ack) t

/-- `READ_REG(r)` (rule R81). -/
def readRequest (r : RegName) (s : State) : Host.Outcome State Fault Refusal :=
  whenReady s fun s =>
    match r with
    | .output _ => refuse .direction s
    | .input r =>
      let t := busily (readInto r) s
      finish (.byte t.rx) t

/-- `WRITE_REG(r, v)` (rule R83). -/
def writeRequest (r : RegName) (v : Nat) (s : State) : Host.Outcome State Fault Refusal :=
  whenReady s fun s =>
    match r with
    | .input _ => refuse .direction s
    | .output r =>
      if 0xFF < v then refuse .argRange s
      else finish .done (busily (xferBody (tableAddr (.output r)) (BitVec.ofNat 8 v)) s)

/-- The frame of an input register with wire data byte `w` (assumption log 6): the frame word of `READ_REG` (rule R81) when
`w` is the wire byte of the filler; of a `TRANSFER` to the register's address (rule R74) otherwise. -/
def inputFrame (r : InputReg) (w : Byte) (s : State) : Host.Outcome State Fault Refusal :=
  if w = wireData s.cfg readFiller then readRequest (.input r) s
  else transferRequest (tableAddr (.input r)).toNat (wireData s.cfg w).toNat s

/-- The frame of an output register with wire data byte `w` (assumption log 6): the `WRITE_REG` that sends `w` (rule
R83). -/
def outputFrame (r : OutputReg) (w : Byte) (s : State) : Host.Outcome State Fault Refusal :=
  writeRequest (.output r) (wireData s.cfg w).toNat s

/-- The frame of an address that selects no register (rules R41, R63; assumption log 6): the `TRANSFER` to that address
that sends `w`. -/
def unassignedFrame (a w : Byte) (s : State) : Host.Outcome State Fault Refusal :=
  transferRequest a.toNat (wireData s.cfg w).toNat s

/-! ### Reading state back (rule R119) -/

/-- A named field of a byte, read through the view the field belongs to. -/
def namedField (c : Cfg) (b : Byte) : ViewField → Reply
  | .first => .nibble (sliderDecode b).first
  | .second => .nibble (sliderDecode b).second
  | .p1Start => .bit (buttonsDecode c b).p1Start
  | .p2Start => .bit (buttonsDecode c b).p2Start
  | .vefx => .bit (buttonsDecode c b).vefx
  | .effect => .bit (buttonsDecode c b).effect
  | .creditCounter => .bit (buttonsDecode c b).creditCounter
  | .lamp k => .bit (lampOf (spotDecode b) k)
  | .neonOn => .bit (neonDecode c b)

/-- What `PEEK` finds for a field. -/
inductive PeekResult where
  /-- `S.mode` or `S.fault`: readable in every mode but `BUSY`. -/
  | always (r : Reply)
  /-- A field readable in `READY` that has a value. -/
  | value (r : Reply)
  /-- A field readable in `READY` that has no value. -/
  | noValue
  /-- Not one of the fields of rule R119. -/
  | unlisted

/-- The value of a field that may have none. -/
def PeekResult.ofOption {α : Type} (f : α → Reply) : Option α → PeekResult
  | some a => .value (f a)
  | none => .noValue

/-- The readable fields of rule R119 and their values. -/
def peekValue (s : State) : PeekField → PeekResult
  | .snapshot r => .ofOption .byte (s.snapshot r)
  | .named (.input r) f => .ofOption (fun b => namedField s.cfg b f) (s.snapshot r)
  | .named (.output _) _ => .unlisted
  | .lastRx => .ofOption .byte s.lastRx
  | .lastAck => .ofOption .bit s.lastAck
  | .cursor => .value (.cursor s.cursor)
  | .animIdx => .value (.animIdx s.animIdx)
  | .mode => .always (.mode s.mode)
  | .fault => .always (.fault s.fault)
  | .lastScroll => .unlisted
  | .lastAnim => .unlisted
  | .clk => .unlisted
  | .enN => .unlisted
  | .dout => .unlisted
  | .phase => .unlisted
  | .bitn => .unlisted
  | .txAddr => .unlisted
  | .txData => .unlisted
  | .rx => .unlisted
  | .ack => .unlisted
  | .seq => .unlisted
  | .cfg => .unlisted

/-- A named field asked of a register that is not read through the field's view (rules R55, R97). -/
def mispaired : PeekField → Bool
  | .named r f => decide (fieldView f ≠ viewOf r)
  | _ => false

end Sys2Proof.Machine
end

