-- ==== Sys2Proof/Machine/Frames.lean ====
section
/-! DEFINITION. The bus frames as operations: what the engine does to put each one on the bus (spec/30_encoding.md rules R48,
R62, R63; assumption log 6). -/

namespace Sys2Proof.Machine

/-- `FRAME_Buttons` (rules R48, R81). -/
def execFrameButtons (w : Byte) (s : State) : Host.Outcome State Fault Refusal := inputFrame .buttons w s

/-- `FRAME_TurntableP1` (rules R48, R81). -/
def execFrameTurntableP1 (w : Byte) (s : State) : Host.Outcome State Fault Refusal := inputFrame .turntableP1 w s

/-- `FRAME_TurntableP2` (rules R48, R81). -/
def execFrameTurntableP2 (w : Byte) (s : State) : Host.Outcome State Fault Refusal := inputFrame .turntableP2 w s

/-- `FRAME_VolumePair12` (rules R48, R81). -/
def execFrameVolumePair12 (w : Byte) (s : State) : Host.Outcome State Fault Refusal := inputFrame .volumePair12 w s

/-- `FRAME_VolumePair34` (rules R48, R81). -/
def execFrameVolumePair34 (w : Byte) (s : State) : Host.Outcome State Fault Refusal := inputFrame .volumePair34 w s

/-- `FRAME_Volume5` (rules R48, R81). -/
def execFrameVolume5 (w : Byte) (s : State) : Host.Outcome State Fault Refusal := inputFrame .volume5 w s

/-- `FRAME_ButtonLamps` (rules R48, R83, R84). -/
def execFrameButtonLamps (w : Byte) (s : State) : Host.Outcome State Fault Refusal := outputFrame .buttonLamps w s

/-- `FRAME_SixteenSegment1` (rules R48, R83). -/
def execFrameSixteenSegment1 (w : Byte) (s : State) : Host.Outcome State Fault Refusal := outputFrame (.segment 0) w s

/-- `FRAME_SixteenSegment2` (rules R48, R83). -/
def execFrameSixteenSegment2 (w : Byte) (s : State) : Host.Outcome State Fault Refusal := outputFrame (.segment 1) w s

/-- `FRAME_SixteenSegment3` (rules R48, R83). -/
def execFrameSixteenSegment3 (w : Byte) (s : State) : Host.Outcome State Fault Refusal := outputFrame (.segment 2) w s

/-- `FRAME_SixteenSegment4` (rules R48, R83). -/
def execFrameSixteenSegment4 (w : Byte) (s : State) : Host.Outcome State Fault Refusal := outputFrame (.segment 3) w s

/-- `FRAME_SixteenSegment5` (rules R48, R83). -/
def execFrameSixteenSegment5 (w : Byte) (s : State) : Host.Outcome State Fault Refusal := outputFrame (.segment 4) w s

/-- `FRAME_SixteenSegment6` (rules R48, R83). -/
def execFrameSixteenSegment6 (w : Byte) (s : State) : Host.Outcome State Fault Refusal := outputFrame (.segment 5) w s

/-- `FRAME_SixteenSegment7` (rules R48, R83). -/
def execFrameSixteenSegment7 (w : Byte) (s : State) : Host.Outcome State Fault Refusal := outputFrame (.segment 6) w s

/-- `FRAME_SixteenSegment8` (rules R48, R83). -/
def execFrameSixteenSegment8 (w : Byte) (s : State) : Host.Outcome State Fault Refusal := outputFrame (.segment 7) w s

/-- `FRAME_SixteenSegment9` (rules R48, R83). -/
def execFrameSixteenSegment9 (w : Byte) (s : State) : Host.Outcome State Fault Refusal := outputFrame (.segment 8) w s

/-- `FRAME_Spotlights` (rules R48, R83). -/
def execFrameSpotlights (w : Byte) (s : State) : Host.Outcome State Fault Refusal := outputFrame .spotlights w s

/-- `FRAME_Neon` (rules R48, R83). -/
def execFrameNeon (w : Byte) (s : State) : Host.Outcome State Fault Refusal := outputFrame .neon w s

/-- `FRAME_unassigned` (rules R41, R63, R74). -/
def execFrameUnassigned (a w : Byte) (s : State) : Host.Outcome State Fault Refusal := unassignedFrame a w s

end Sys2Proof.Machine
end

