-- ==== Sys2Proof/Machine/HostOps.lean ====
section
/-! DEFINITION. The six operations the host requests (spec/30_encoding.md rule R61). -/

namespace Sys2Proof.Machine

/-- `RESET(cfg, t0)` (rule R135): refused while `BUSY`, and where `t0` is wider than the record's `TIME_W` bits, before
anything is driven (rule R63; assumption log 15); with an invalid `Cfg` the `CONFIG` error of rule R122. -/
def execReset (cfg : Cfg) (t0 : Nat) (s : State) : Host.Outcome State Fault Refusal :=
  if s.mode = .busy then refuse .notReady s
  else if timeModulus cfg ≤ t0 then refuse .argRange s
  else
    let t := resetCore cfg t0 s
    if cfgValid cfg then finish .done { t with mode := .ready }
    else finish (.faulted .config) { t with fault := some .config, mode := .unconfigured }

/-- `TRANSFER(a, d)` (rules R74, R80). -/
def execTransfer (a d : Nat) (s : State) : Host.Outcome State Fault Refusal := transferRequest a d s

/-- `READ_REG(r)` (rule R81). -/
def execReadReg (r : RegName) (s : State) : Host.Outcome State Fault Refusal := readRequest r s

/-- `WRITE_REG(r, v)` (rule R83). -/
def execWriteReg (r : RegName) (v : Nat) (s : State) : Host.Outcome State Fault Refusal := writeRequest r v s

/-- `TICK` (rule R99). -/
def execTick (s : State) : Host.Outcome State Fault Refusal :=
  whenReady s fun s => finish .done (busily tickBody s)

/-- `PEEK(f)` (rule R119), with the pairing decided before the request exists (rule R97) and the other checks in the order of
rule R125: the mode before the set of fields (assumption log 8). -/
def execPeek (f : PeekField) (s : State) : Host.Outcome State Fault Refusal :=
  if mispaired f then refuse .pairing s
  else if s.mode = .busy then refuse .notReady s
  else
    match peekValue s f with
    | .unlisted => whenReady s fun s => refuse .argRange s
    | .always r => finish r s
    | .value r => whenReady s fun s => finish r s
    | .noValue => whenReady s fun s => raiseFault .unwritten s

end Sys2Proof.Machine
end

