-- ==== Sys2Proof/Machine/Pseudo.lean ====
section
/-! DEFINITION. The assembly pseudo-instructions by their expansions (spec/30_encoding.md rule R64). -/

namespace Sys2Proof.Machine

/-- `LAMP k` = `WR Spotlights, onehot(pos(k))`. -/
def execLamp (k : Fin 8) (s : State) : Host.Outcome State Fault Refusal :=
  writeRequest (.output .spotlights) (bitAt true (spotPos k)).toNat s

/-- `SEG n, c` = `WR SixteenSegment[n], <character code of c>`, with `n = cell + 1`. -/
def execSeg (cell : Fin 9) (code : Nat) (s : State) : Host.Outcome State Fault Refusal :=
  writeRequest (.output (.segment cell)) code s

/-- `NEON b` = `WR Neon, (b << Cfg.NEON_BIT)`. -/
def execNeon (on : Bool) (s : State) : Host.Outcome State Fault Refusal :=
  writeRequest (.output .neon) (neonEncode s.cfg on).toNat s

end Sys2Proof.Machine
end

