-- ==== Sys2Proof/Machine/Schedulers.lean ====
section
/-! DEFINITION. The schedulers' steps as operations of their own (spec/44_schedulers.md). -/

namespace Sys2Proof.Machine

/-- `SCROLL_STEP(t)` (rule R109). -/
def execScrollStep (t : Nat) (s : State) : Host.Outcome State Fault Refusal := finish .done (scrollStep t s)

/-- `RENDER(i)` (rule R111). -/
def execRender (i : Fin 9) (s : State) : Host.Outcome State Fault Refusal := finish (.byte (renderByte s.cfg s.cursor i)) s

/-- `CHASE_STEP(t)` (rule R113). -/
def execChaseStep (t : Nat) (s : State) : Host.Outcome State Fault Refusal := finish .done (chaseStep t s)

/-- `SPOT_BYTE(k)` (rule R115). -/
def execSpotByte (k : Fin 8) (s : State) : Host.Outcome State Fault Refusal := finish (.byte (spotByteOf k)) s

/-- `NEON_BYTE(k)` (rule R116). -/
def execNeonByte (k : Fin 8) (s : State) : Host.Outcome State Fault Refusal := finish (.byte (neonByteOf s.cfg k)) s

end Sys2Proof.Machine
end

