-- ==== Sys2Proof/Machine/Transport.lean ====
section
/-! DEFINITION. The transport's primitives as operations of their own (spec/40_transport.md rules R68 to R71). Each hands its
sample back. -/

namespace Sys2Proof.Machine

/-- `WRITE_BIT(b)` (rule R68). -/
def execWriteBit (b : Bool) (s : State) : Host.Outcome State Fault Refusal := finish .done (writeBit b s)

/-- `READ_BIT()` (rule R69). -/
def execReadBit (s : State) : Host.Outcome State Fault Refusal := finish (.bit (readBit s).1) (readBit s).2

/-- `XFER_BIT(b)` (rule R70). -/
def execXferBit (b : Bool) (s : State) : Host.Outcome State Fault Refusal := finish (.bit (xferBit b s).1) (xferBit b s).2

/-- `SAMPLE_ACK()` (rule R71). -/
def execSampleAck (s : State) : Host.Outcome State Fault Refusal := finish (.bit (sampleAck s).1) (sampleAck s).2

end Sys2Proof.Machine
end

