-- ==== Sys2Proof/Machine/Views.lean ====
section
/-! DEFINITION. The register map and the views as operations of their own (spec/42_views.md). Each hands its result back and
changes nothing else (rule R98). -/

namespace Sys2Proof.Machine

/-- `ADDR_OF(r)` (rule R85). -/
def execAddrOf (r : RegName) (s : State) : Host.Outcome State Fault Refusal := finish (.byte (tableAddr r)) s

/-- `REG_OF(A)` (rule R86). -/
def execRegOf (a : Byte) (s : State) : Host.Outcome State Fault Refusal := finish (.register (regAt a)) s

/-- `DECODE_RAW(b)` (rule R87). -/
def execDecodeRaw (b : Byte) (s : State) : Host.Outcome State Fault Refusal := finish (.byte (rawDecode b)) s

/-- `ENCODE_RAW(b)` (rule R87). -/
def execEncodeRaw (b : Byte) (s : State) : Host.Outcome State Fault Refusal := finish (.byte (rawEncode b)) s

/-- `DECODE_SLIDER(b)` (rule R88). -/
def execDecodeSlider (b : Byte) (s : State) : Host.Outcome State Fault Refusal := finish (.slider (sliderDecode b)) s

/-- `ENCODE_SLIDER(first, second)` (rule R89): refused `ARG_RANGE` above 15. -/
def execEncodeSlider (first second : Nat) (s : State) : Host.Outcome State Fault Refusal :=
  if 15 < first ∨ 15 < second then refuse .argRange s
  else finish (.byte (sliderEncode { first := BitVec.ofNat 4 first, second := BitVec.ofNat 4 second })) s

/-- `DECODE_BUTTONS(b)` (rule R90). -/
def execDecodeButtons (b : Byte) (s : State) : Host.Outcome State Fault Refusal := finish (.buttons (buttonsDecode s.cfg b)) s

/-- `ENCODE_BUTTONS(…)` (rule R91). -/
def execEncodeButtons (v : ButtonsView) (s : State) : Host.Outcome State Fault Refusal := finish (.byte (buttonsEncode s.cfg v)) s

/-- `DECODE_SPOT(b)` (rule R92). -/
def execDecodeSpot (b : Byte) (s : State) : Host.Outcome State Fault Refusal := finish (.spot (spotDecode b)) s

/-- `ENCODE_SPOT(…)` (rule R93). -/
def execEncodeSpot (v : SpotView) (s : State) : Host.Outcome State Fault Refusal := finish (.byte (spotEncode v)) s

/-- `DECODE_NEON(b)` (rule R94). -/
def execDecodeNeon (b : Byte) (s : State) : Host.Outcome State Fault Refusal := finish (.bit (neonDecode s.cfg b)) s

/-- `ENCODE_NEON(on)` (rule R95). -/
def execEncodeNeon (on : Bool) (s : State) : Host.Outcome State Fault Refusal := finish (.byte (neonEncode s.cfg on)) s

end Sys2Proof.Machine
end

