-- ==== Sys2Proof/Machine/Dispatch.lean ====
section
/-! DEFINITION. What each operation does: one arm per row of spec/opcode_table.json. -/

namespace Sys2Proof.Machine

def exec (i : Instr) (s : State) : Host.Outcome State Fault Refusal :=
  match i with
  | .frameButtons w => Sys2Proof.Machine.execFrameButtons w s
  | .frameTurntableP1 w => Sys2Proof.Machine.execFrameTurntableP1 w s
  | .frameTurntableP2 w => Sys2Proof.Machine.execFrameTurntableP2 w s
  | .frameVolumePair12 w => Sys2Proof.Machine.execFrameVolumePair12 w s
  | .frameVolumePair34 w => Sys2Proof.Machine.execFrameVolumePair34 w s
  | .frameVolume5 w => Sys2Proof.Machine.execFrameVolume5 w s
  | .frameButtonLamps w => Sys2Proof.Machine.execFrameButtonLamps w s
  | .frameSixteenSegment1 w => Sys2Proof.Machine.execFrameSixteenSegment1 w s
  | .frameSixteenSegment2 w => Sys2Proof.Machine.execFrameSixteenSegment2 w s
  | .frameSixteenSegment3 w => Sys2Proof.Machine.execFrameSixteenSegment3 w s
  | .frameSixteenSegment4 w => Sys2Proof.Machine.execFrameSixteenSegment4 w s
  | .frameSixteenSegment5 w => Sys2Proof.Machine.execFrameSixteenSegment5 w s
  | .frameSixteenSegment6 w => Sys2Proof.Machine.execFrameSixteenSegment6 w s
  | .frameSixteenSegment7 w => Sys2Proof.Machine.execFrameSixteenSegment7 w s
  | .frameSixteenSegment8 w => Sys2Proof.Machine.execFrameSixteenSegment8 w s
  | .frameSixteenSegment9 w => Sys2Proof.Machine.execFrameSixteenSegment9 w s
  | .frameSpotlights w => Sys2Proof.Machine.execFrameSpotlights w s
  | .frameNeon w => Sys2Proof.Machine.execFrameNeon w s
  | .frameUnassigned a w => Sys2Proof.Machine.execFrameUnassigned a w s
  | .reset cfg t0 => Sys2Proof.Machine.execReset cfg t0 s
  | .transfer a d => Sys2Proof.Machine.execTransfer a d s
  | .readReg r => Sys2Proof.Machine.execReadReg r s
  | .writeReg r v => Sys2Proof.Machine.execWriteReg r v s
  | .tick => Sys2Proof.Machine.execTick s
  | .peek f => Sys2Proof.Machine.execPeek f s
  | .writeBit b => Sys2Proof.Machine.execWriteBit b s
  | .readBit => Sys2Proof.Machine.execReadBit s
  | .xferBit b => Sys2Proof.Machine.execXferBit b s
  | .sampleAck => Sys2Proof.Machine.execSampleAck s
  | .addrOf r => Sys2Proof.Machine.execAddrOf r s
  | .regOf a => Sys2Proof.Machine.execRegOf a s
  | .decodeRaw b => Sys2Proof.Machine.execDecodeRaw b s
  | .encodeRaw b => Sys2Proof.Machine.execEncodeRaw b s
  | .decodeSlider b => Sys2Proof.Machine.execDecodeSlider b s
  | .encodeSlider first second => Sys2Proof.Machine.execEncodeSlider first second s
  | .decodeButtons b => Sys2Proof.Machine.execDecodeButtons b s
  | .encodeButtons v => Sys2Proof.Machine.execEncodeButtons v s
  | .decodeSpot b => Sys2Proof.Machine.execDecodeSpot b s
  | .encodeSpot v => Sys2Proof.Machine.execEncodeSpot v s
  | .decodeNeon b => Sys2Proof.Machine.execDecodeNeon b s
  | .encodeNeon on => Sys2Proof.Machine.execEncodeNeon on s
  | .scrollStep t => Sys2Proof.Machine.execScrollStep t s
  | .render k => Sys2Proof.Machine.execRender k s
  | .chaseStep t => Sys2Proof.Machine.execChaseStep t s
  | .spotByte k => Sys2Proof.Machine.execSpotByte k s
  | .neonByte k => Sys2Proof.Machine.execNeonByte k s
  | .lamp k => Sys2Proof.Machine.execLamp k s
  | .seg cell code => Sys2Proof.Machine.execSeg cell code s
  | .neon on => Sys2Proof.Machine.execNeon on s

end Sys2Proof.Machine
end

