-- ==== Sys2Proof/Machine/Step.lean ====
section
/-! DEFINITION. One step of the machine: the engine takes the host's next request and runs it to completion
(spec/20_memory.md rule R43; spec/43_poll_cycle.md rule R103). It "does nothing between requests" (rule R141). -/

namespace Sys2Proof.Machine

/-- One step: the oldest request runs; with none, nothing changes. -/
def step (s : State) : Host.Outcome State Fault Refusal :=
  match s.requests with
  | [] => .next s
  | r :: rest => exec r.instr { s with requests := rest }

/-- `s` with the frame word of an opcode-table word as the host's next request (assumption log 1). -/
def State.withFetchWord (s : State) (nbits w : Nat) : State :=
  { s with requests := .frame (tableFrame nbits w) :: s.requests }

end Sys2Proof.Machine
end

