-- ==== Sys2Proof/Safety.lean ====
section
/-! DEFINITION. The terms the statements are written in: the trace of a transfer (spec/41_transfer.md rule R79) and of a
tick (spec/43_poll_cycle.md rule R103) as whole lists, the state a transfer and a tick leave, the poll order of rule R100 as
a table, and the invariant of the states between operations. None of it calls the operations that build a trace or a state
event by event. -/

namespace Sys2Proof.Machine

/-! ### Traces -/

/-- One bit cell carrying `b` (rule R66), with holds of `T`. -/
def cellEvents (T : Nat) (b : Bool) : List Event := [.clk false, .dout b, .wait T, .clk true, .wait T]

/-- The address phase of rule R79: the bits of `A`, bit 7 first. -/
def addrEvents (T : Nat) (A : Byte) : List Event :=
  ([7, 6, 5, 4, 3, 2, 1, 0] : List Nat).flatMap fun i => cellEvents T (A.getLsbD i)

/-- The data phase of rule R79: the bits of `W`, bit 7 first, each cell followed by its sample. -/
def dataEvents (T : Nat) (W : Byte) (x : Nat → Bool) : List Event :=
  ([0, 1, 2, 3, 4, 5, 6, 7] : List Nat).flatMap fun k => cellEvents T (W.getLsbD (7 - k)) ++ [.sample (x k)]

/-- The trace of one transfer (rule R79), with acknowledgment sample `v` and data samples `x`. -/
def transferEvents (T : Nat) (A W : Byte) (v : Bool) (x : Nat → Bool) : List Event :=
  [.en false] ++ addrEvents T A ++ [.sample v] ++ dataEvents T W x ++ [.en true]

/-- `s` with the events `es`, in the order they happen, added to its trace. -/
def State.emitAll (s : State) (es : List Event) : State := { s with events := es.reverse ++ s.events }

/-! ### What one transfer leaves -/

/-- The byte assembled from the data samples `x` (rule R54). -/
def received (c : Cfg) (x : Nat → Bool) : Byte :=
  ([0, 1, 2, 3, 4, 5, 6, 7] : List (Fin 8)).foldl (fun r (k : Fin 8) => r ||| bitAt (x k) (rxPos c k)) 0

/-- The byte that the transfer whose acknowledgment is the `n`-th sample to come will receive. -/
def State.rxFrom (s : State) (n : Nat) : Byte := received s.cfg fun k => s.sampleAt (n + 1 + k)

/-- The acknowledgment of that transfer. -/
def State.ackFrom (s : State) (n : Nat) : Bool := ackOf (s.sampleAt n)

/-- The trace of that transfer when it sends address `a` and data byte `d`. -/
def State.framesFrom (s : State) (n : Nat) (a d : Byte) : List Event :=
  transferEvents s.cfg.bitDelay (wireAddr s.cfg a) (wireData s.cfg d) (s.sampleAt n) fun k => s.sampleAt (n + 1 + k)

/-- The state after one transfer of address `a` and data byte `d` (rule R74): the lines at rest, the datapath's last
values, the result registers, nine samples drawn, and the 91 events of rule R79. Nothing else changes. -/
def afterTransfer (a d : Byte) (s : State) : State :=
  { s with
    clk := .driven true
    enN := .driven true
    dout := .driven ((wireData s.cfg d).getLsbD 0)
    phase := .idle
    bitn := 0
    txAddr := wireAddr s.cfg a
    txData := wireData s.cfg d
    rx := s.rxFrom 0
    ack := s.ackFrom 0
    lastRx := some (s.rxFrom 0)
    lastAck := some (s.ackFrom 0)
    dataIn := s.dataIn.skip 9
    events := (s.framesFrom 0 a d).reverse ++ s.events }

/-! ### What one tick leaves -/

/-- The cursor and `last_scroll` after `SCROLL_STEP(t)` (rule R109). -/
def scrolled (s : State) (t : Nat) : Nat × Nat :=
  if s.cfg.scrollInterval ≤ elapsed s.cfg t s.lastScroll then
    (if s.cursor + 1 = s.cfg.textLen then 0 else s.cursor + 1, t)
  else (s.cursor, s.lastScroll)

/-- The index and `last_anim` after `CHASE_STEP(t)` (rule R113). -/
def chased (s : State) (t : Nat) : Fin 8 × Nat :=
  if s.cfg.animInterval < elapsed s.cfg t s.lastAnim then (s.animIdx + 1, t) else (s.animIdx, s.lastAnim)

/-- The rows of rule R100: the table address and the data byte before `INVERT_TX` of the transfers 0..16 of a tick that
shows the lamp index `k` and the text from `cursor` on. -/
def pollRows (c : Cfg) (k : Fin 8) (cursor : Nat) : List (Byte × Byte) :=
  [(0x07, 0), (0x0F, 0), (0x17, 0), (0x1F, 0), (0x27, 0), (0x2F, 0),
   (0x87, spotByteOf k), (0x8F, neonByteOf c k),
   (0x3F, renderByte c cursor 0), (0x47, renderByte c cursor 1), (0x4F, renderByte c cursor 2),
   (0x57, renderByte c cursor 3), (0x5F, renderByte c cursor 4), (0x67, renderByte c cursor 5),
   (0x6F, renderByte c cursor 6), (0x77, renderByte c cursor 7), (0x7F, renderByte c cursor 8)]

/-- The traces of transfers made one after another, with no event between two (rule R103): the first draws its
acknowledgment as sample `n` to come, and each draws nine. -/
def State.pollEvents (s : State) : Nat → List (Byte × Byte) → List Event
  | _, [] => []
  | n, (a, d) :: rows => s.framesFrom n a d ++ s.pollEvents (n + 9) rows

/-- The state after one tick (rule R99): the six snapshots, the schedulers' steps at their two time samples, the last
transfer's datapath and results, 153 samples and two time values drawn, and the 17 transfers' traces. Nothing else
changes. -/
def afterTick (s : State) : State :=
  let chase := chased s (s.timeAt 0)
  let scroll := scrolled s (s.timeAt 1)
  let lastByte := renderByte s.cfg scroll.1 8
  { s with
    clk := .driven true
    enN := .driven true
    dout := .driven ((wireData s.cfg lastByte).getLsbD 0)
    phase := .idle
    bitn := 0
    txAddr := wireAddr s.cfg 0x7F
    txData := wireData s.cfg lastByte
    rx := s.rxFrom 144
    ack := s.ackFrom 144
    lastRx := some (s.rxFrom 144)
    lastAck := some (s.ackFrom 144)
    snapButtons := some (s.rxFrom 0)
    snapTt1 := some (s.rxFrom 9)
    snapTt2 := some (s.rxFrom 18)
    snapVol12 := some (s.rxFrom 27)
    snapVol34 := some (s.rxFrom 36)
    snapVol5 := some (s.rxFrom 45)
    cursor := scroll.1
    lastScroll := scroll.2
    animIdx := chase.1
    lastAnim := chase.2
    seq := .idle
    dataIn := s.dataIn.skip 153
    time := s.time.skip 2
    events := (s.pollEvents 0 (pollRows s.cfg chase.1 scroll.1)).reverse ++ s.events }

/-! ### The frames by register -/

/-- The frames of the input registers with their table addresses (rule R40; spec/opcode_table.json). -/
def inputFrames : List (InputReg × Byte × (Byte → Instr)) :=
  [(.buttons, 0x07, .frameButtons), (.turntableP1, 0x0F, .frameTurntableP1), (.turntableP2, 0x17, .frameTurntableP2),
   (.volumePair12, 0x1F, .frameVolumePair12), (.volumePair34, 0x27, .frameVolumePair34), (.volume5, 0x2F, .frameVolume5)]

/-- The frames of the output registers with their table addresses (rule R40; spec/opcode_table.json). -/
def outputFrames : List (OutputReg × Byte × (Byte → Instr)) :=
  [(.buttonLamps, 0x37, .frameButtonLamps),
   (.segment 0, 0x3F, .frameSixteenSegment1), (.segment 1, 0x47, .frameSixteenSegment2),
   (.segment 2, 0x4F, .frameSixteenSegment3), (.segment 3, 0x57, .frameSixteenSegment4),
   (.segment 4, 0x5F, .frameSixteenSegment5), (.segment 5, 0x67, .frameSixteenSegment6),
   (.segment 6, 0x6F, .frameSixteenSegment7), (.segment 7, 0x77, .frameSixteenSegment8),
   (.segment 8, 0x7F, .frameSixteenSegment9), (.spotlights, 0x87, .frameSpotlights), (.neon, 0x8F, .frameNeon)]

/-- The 18 registers with their table addresses (rule R40). -/
def addressMap : List (RegName × Byte) :=
  inputFrames.map (fun p => (.input p.1, p.2.1)) ++ outputFrames.map fun p => (.output p.1, p.2.1)

/-! ### Runs of scheduler steps -/

/-- Every one of the times `ts`, taken in turn, advances the cursor (rule R109's condition). -/
def everyScrollAdvances : List Nat → State → Prop
  | [], _ => True
  | t :: ts, s => s.cfg.scrollInterval ≤ elapsed s.cfg t s.lastScroll ∧ everyScrollAdvances ts (scrollStep t s)

/-- Every one of the times `ts`, taken in turn, advances the lamp index (rule R113's condition). -/
def everyChaseAdvances : List Nat → State → Prop
  | [], _ => True
  | t :: ts, s => s.cfg.animInterval < elapsed s.cfg t s.lastAnim ∧ everyChaseAdvances ts (chaseStep t s)

/-! ### The states between operations -/

/-- The lines at rest (rules R16, R72): clock at 1, Enable de-asserted, DataOut at some level. -/
def linesAtRest (s : State) : Prop := s.clk = .driven true ∧ s.enN = .driven true ∧ s.dout ≠ .undriven

/-- The lines before the first reset (rule R136). -/
def linesUndriven (s : State) : Prop := s.clk = .undriven ∧ s.enN = .undriven ∧ s.dout = .undriven

/-- What holds between operations: nothing is under way (rules R19, R27, R28), the lines are at rest unless no reset has
ever been (rules R72, R136), the mode and the fault register agree (rules R28, R29, R122, R123), a started engine has a
valid `Cfg` and a cursor inside its text (rules R9, R24), both result registers have a value or neither (rule R20), and the
timestamps are `TIME_W`-bit values (rule R130). -/
structure State.Inv (s : State) : Prop where
  notBusy : s.mode ≠ .busy
  phaseIdle : s.phase = .idle
  seqIdle : s.seq = .idle
  lines : linesAtRest s ∨ (linesUndriven s ∧ s.mode = .unconfigured ∧ s.fault = none)
  unconfigured : s.mode = .unconfigured → linesAtRest s → s.fault = some .config
  ready : s.mode = .ready → s.fault = none
  faulted : s.mode = .faulted → s.fault = some .unwritten
  started : s.mode ≠ .unconfigured → cfgValid s.cfg = true ∧ s.cursor < s.cfg.textLen
  results : s.lastRx.isSome = s.lastAck.isSome
  lastScroll : s.lastScroll < timeModulus s.cfg
  lastAnim : s.lastAnim < timeModulus s.cfg

end Sys2Proof.Machine
end

