-- ==== Sys2Proof/WellFormed.lean ====
section
/-! DEFINITION. Which operations a correct host or sub-block makes: every operand inside the width or set its rule gives it
(spec/60_exceptions.md rule R120, `ARG_RANGE`, `DIRECTION`, `PAIRING`; spec/00_scope.md rule R9), and an unassigned frame
that indeed selects no register (spec/30_encoding.md rule R62). An ill-formed operation still runs: its meaning is the
refusal, or the configuration error, that the spec gives. -/

namespace Sys2Proof

/-- A value of 8 bits (rules R74, R83). -/
def isByte (n : Nat) : Bool := decide (n ≤ 0xFF)

/-- A value of 4 bits (rule R89). -/
def isNibble (n : Nat) : Bool := decide (n ≤ 15)

/-- A field that `PEEK` can be asked for (rule R119): a listed one, or a named field of an input register that belongs to
that register's view (rules R55, R97). -/
def PeekField.wellFormed : PeekField → Bool
  | .snapshot _ => true
  | .named (.input r) f => decide (Machine.fieldView f = Machine.viewOf (.input r))
  | .named (.output _) _ => false
  | .lastRx => true
  | .lastAck => true
  | .cursor => true
  | .animIdx => true
  | .mode => true
  | .fault => true
  | .lastScroll => false
  | .lastAnim => false
  | .clk => false
  | .enN => false
  | .dout => false
  | .phase => false
  | .bitn => false
  | .txAddr => false
  | .txData => false
  | .rx => false
  | .ack => false
  | .seq => false
  | .cfg => false

/-- An output register (rule R83). -/
def RegName.isOutput : RegName → Bool
  | .input _ => false
  | .output _ => true

/-- Every operand in its range, and the register of a read or a write in its direction. -/
def Instr.wellFormed : Instr → Bool
  | .frameButtons _ => true
  | .frameTurntableP1 _ => true
  | .frameTurntableP2 _ => true
  | .frameVolumePair12 _ => true
  | .frameVolumePair34 _ => true
  | .frameVolume5 _ => true
  | .frameButtonLamps _ => true
  | .frameSixteenSegment1 _ => true
  | .frameSixteenSegment2 _ => true
  | .frameSixteenSegment3 _ => true
  | .frameSixteenSegment4 _ => true
  | .frameSixteenSegment5 _ => true
  | .frameSixteenSegment6 _ => true
  | .frameSixteenSegment7 _ => true
  | .frameSixteenSegment8 _ => true
  | .frameSixteenSegment9 _ => true
  | .frameSpotlights _ => true
  | .frameNeon _ => true
  | .frameUnassigned a _ => (regAt a).isNone
  | .reset cfg t0 => Machine.cfgValid cfg && decide (t0 < Machine.timeModulus cfg)
  | .transfer a d => isByte a && isByte d
  | .readReg r => !r.isOutput
  | .writeReg r v => r.isOutput && isByte v
  | .tick => true
  | .peek f => f.wellFormed
  | .writeBit _ => true
  | .readBit => true
  | .xferBit _ => true
  | .sampleAck => true
  | .addrOf _ => true
  | .regOf _ => true
  | .decodeRaw _ => true
  | .encodeRaw _ => true
  | .decodeSlider _ => true
  | .encodeSlider first second => isNibble first && isNibble second
  | .decodeButtons _ => true
  | .encodeButtons _ => true
  | .decodeSpot _ => true
  | .encodeSpot _ => true
  | .decodeNeon _ => true
  | .encodeNeon _ => true
  | .scrollStep _ => true
  | .render _ => true
  | .chaseStep _ => true
  | .spotByte _ => true
  | .neonByte _ => true
  | .lamp _ => true
  | .seg _ code => isByte code
  | .neon _ => true

end Sys2Proof
end

