-- ==== Sys2Proof/Certificates/Slice0/Obligations.lean ====
section
/-! DEFINITION. The statements about the engine, for the provers. `exec i s = .next t` reads: the operation `i`, run in the
state `s`, completes and leaves `t`. A statement that gives `t` as `s` with some fields set says at once what the operation
writes and that it leaves every other field alone. -/

open Sys2Proof Sys2Proof.Machine

/-! ### Encoding -/

/-- Frame words written out from the table of rule R40 and the shape of rule R48 (address byte first) decode to the frames
they stand for: 0x8710 is `1000_0111 0001_0000`. -/
def Obligations.SpecFrameWordsDecode : Prop :=
  decodeFrame 0b0000011100000000 = .frameButtons 0x00 ∧ decodeFrame 0b0001111110100101 = .frameVolumePair12 0xA5
    ∧ decodeFrame 0b0111111101010111 = .frameSixteenSegment9 0x57 ∧ decodeFrame 0b1000011100010000 = .frameSpotlights 0x10
    ∧ decodeFrame 0b1000111100000001 = .frameNeon 0x01 ∧ decodeFrame 0b1001011100000000 = .frameUnassigned 0x97 0x00
    ∧ decodeFrame 0b1000011000000000 = .frameUnassigned 0x86 0x00

/-- Decode and encode agree: every well-formed frame, with every wire data byte, decodes from its frame word and from its
two bytes. -/
def Obligations.EveryFrameDecodesBack : Prop :=
  ∀ (i : Instr) (f : FrameWord), i.wellFormed = true → encode i = some f →
    decodeFrame f = i ∧ encodeBytes i = some [frameAddr f, frameData f] ∧ decode [frameAddr f, frameData f] = .instr i

/-- Every one of the 65536 frame words is the encoding of the one well-formed frame it decodes to (rule R63: no frame is
illegal), and no byte string of another length is a frame (rule R49). -/
def Obligations.EveryFrameWordIsOneFrame : Prop :=
  (∀ f : FrameWord, encode (decodeFrame f) = some f ∧ (decodeFrame f).wellFormed = true)
    ∧ ∀ bs : List Byte, (bs.length < 2 → decode bs = .rejected .truncated)
        ∧ (2 < bs.length → decode bs = .rejected .trailing)

/-- A frame word selects the register whose id stands in `A[7:3]` when `A[2:0]` is `0b111`, and selects no register when
the low bits differ or the id is above 17 (rule R62). -/
def Obligations.FramesSelectRegisters : Prop :=
  ∀ f : FrameWord,
    (∀ r : RegName, decodeFrame f = frameOf r (frameData f) ↔
      (frameAddr f).extractLsb' 0 3 = 0b111 ∧ ((frameAddr f).extractLsb' 3 5).toNat = regId r)
    ∧ (decodeFrame f = .frameUnassigned (frameAddr f) (frameData f) ↔
      ¬((frameAddr f).extractLsb' 0 3 = 0b111 ∧ ((frameAddr f).extractLsb' 3 5).toNat ≤ 17))

/-! ### The register map -/

/-- `ADDR_OF` (rule R85): the address of each of the 18 registers of rule R40, which is `(id << 3) | 0x07`. -/
def Obligations.AddrOfGivesTableAddress : Prop :=
  (∀ (r : RegName) (a : Byte) (s : State), (r, a) ∈ addressMap → exec (.addrOf r) s = .next { s with reply := .byte a })
    ∧ (∀ r : RegName, ∃ a : Byte, (r, a) ∈ addressMap ∧ a = BitVec.ofNat 8 (8 * regId r + 7))

/-- `REG_OF` (rule R86): the register whose id stands in `A[7:3]` if `A[2:0]` is `0b111`, else none; under `AND7` the wire
address of every table address selects Buttons. -/
def Obligations.RegOfSelectsByAddress : Prop :=
  (∀ (a : Byte) (s : State), ∃ o : Option RegName, exec (.regOf a) s = .next { s with reply := .register o }
    ∧ (∀ r : RegName, o = some r ↔ a.extractLsb' 0 3 = 0b111 ∧ (a.extractLsb' 3 5).toNat = regId r)
    ∧ (o = none ↔ ¬(a.extractLsb' 0 3 = 0b111 ∧ (a.extractLsb' 3 5).toNat ≤ 17)))
    ∧ ∀ (c : Cfg) (r : RegName) (s : State), c.addrMode = .and7 →
        exec (.regOf (wireAddr c (tableAddr r))) s = .next { s with reply := .register (some (.input .buttons)) }

/-! ### Steps -/

/-- A step runs the decoded instruction: where the host's next request is the frame word `f`, the step is `exec` of the
frame it decodes to, with the request taken off the list; `withFetchWord` puts a table word there. -/
def Obligations.StepRunsFrameWord : Prop :=
  (∀ (s : State) (f : FrameWord) (rest : List Request), s.requests = .frame f :: rest →
    step s = exec (decodeFrame f) { s with requests := rest })
    ∧ ∀ (s : State) (w : Nat), step (s.withFetchWord 16 w) = exec (decodeFrame (BitVec.ofNat 16 w)) s

/-- A step runs the host's next request, of each kind, with the request taken off the list; with no request the engine does
nothing (rule R141). -/
def Obligations.StepRunsHostRequest : Prop :=
  ∀ (s : State) (rest : List Request),
    (∀ c t0, s.requests = .reset c t0 :: rest → step s = exec (.reset c t0) { s with requests := rest })
    ∧ (∀ a d, s.requests = .transfer a d :: rest → step s = exec (.transfer a d) { s with requests := rest })
    ∧ (∀ r, s.requests = .readReg r :: rest → step s = exec (.readReg r) { s with requests := rest })
    ∧ (∀ r v, s.requests = .writeReg r v :: rest → step s = exec (.writeReg r v) { s with requests := rest })
    ∧ (s.requests = .tick :: rest → step s = exec .tick { s with requests := rest })
    ∧ (∀ f, s.requests = .peek f :: rest → step s = exec (.peek f) { s with requests := rest })
    ∧ (∀ k, s.requests = .lamp k :: rest → step s = exec (.lamp k) { s with requests := rest })
    ∧ (∀ i c, s.requests = .seg i c :: rest → step s = exec (.seg i c) { s with requests := rest })
    ∧ (∀ b, s.requests = .neon b :: rest → step s = exec (.neon b) { s with requests := rest })
    ∧ (s.requests = [] → step s = .next s)

/-! ### Reset -/

/-- `RESET` with a valid `Cfg` and a time of its `TIME_W` bits, in any mode but `BUSY`: every field has the value of rule R33,
and the three events `EN(1) CLK(1) DOUT(0)` are emitted. That the five datapath fields, which rule R33 gives no value, keep
theirs is the model's choice (assumption log 5). -/
def Obligations.ResetStartsEngine : Prop :=
  ∀ (cfg : Cfg) (t0 : Nat) (s : State), s.mode ≠ .busy → t0 < 2 ^ cfg.timeW → cfgValid cfg = true →
    exec (.reset cfg t0) s = .next { s with
      cfg := cfg, clk := .driven true, enN := .driven true, dout := .driven false, phase := .idle, seq := .idle
      lastRx := none, lastAck := none
      snapButtons := none, snapTt1 := none, snapTt2 := none, snapVol12 := none, snapVol34 := none, snapVol5 := none
      cursor := 0, lastScroll := t0, animIdx := 0, lastAnim := t0
      mode := .ready, fault := none
      events := [.dout false, .clk true, .en true] ++ s.events, reply := .done }

/-- `RESET` with an invalid `Cfg` and a time of its `TIME_W` bits, in any mode but `BUSY`: the same assignments, then
`S.fault <- CONFIG` and `S.mode <- UNCONFIGURED` (rules R33, R122). In `BUSY` it is refused `NOT_READY`, and otherwise a time
wider than `TIME_W` bits is refused `ARG_RANGE` before anything else is looked at; a refusal changes nothing. That a rejected
reset has driven its three lines follows rule R135 against rule R127 (assumption log 18), that the width of the time is
tested before the rest of the record is the model's reading (assumption log 15), and that the five datapath fields keep
their values is its choice (assumption log 5). -/
def Obligations.ResetRejectsInvalidCfg : Prop :=
  (∀ (cfg : Cfg) (t0 : Nat) (s : State), s.mode ≠ .busy → t0 < 2 ^ cfg.timeW → cfgValid cfg = false →
    exec (.reset cfg t0) s = .next { s with
      cfg := cfg, clk := .driven true, enN := .driven true, dout := .driven false, phase := .idle, seq := .idle
      lastRx := none, lastAck := none
      snapButtons := none, snapTt1 := none, snapTt2 := none, snapVol12 := none, snapVol34 := none, snapVol5 := none
      cursor := 0, lastScroll := t0, animIdx := 0, lastAnim := t0
      mode := .unconfigured, fault := some .config
      events := [.dout false, .clk true, .en true] ++ s.events, reply := .faulted .config })
    ∧ (∀ (cfg : Cfg) (t0 : Nat) (s : State), s.mode = .busy →
        exec (.reset cfg t0) s = .next { s with reply := .refused .notReady })
    ∧ ∀ (cfg : Cfg) (t0 : Nat) (s : State), s.mode ≠ .busy → 2 ^ cfg.timeW ≤ t0 →
        exec (.reset cfg t0) s = .next { s with reply := .refused .argRange }

/-- A reset outside `BUSY`, at a time of the record's `TIME_W` bits, starts the engine exactly when `Cfg` is valid in the
sense of rule R9; otherwise it is the `CONFIG` error. The text is latched as given either way, never truncated. -/
def Obligations.ResetAcceptsExactlyValidCfg : Prop :=
  ∀ (cfg : Cfg) (t0 : Nat) (s : State), s.mode ≠ .busy → t0 < 2 ^ cfg.timeW →
    ∃ t : State, exec (.reset cfg t0) s = .next t ∧ t.cfg = cfg ∧
      (if (1 ≤ cfg.textLen ∧ cfg.textLen ≤ 64)
          ∧ (cfg.text.length = 64 ∧ cfg.neonBit ≤ 7 ∧ 1 ≤ cfg.timeW
            ∧ cfg.scrollInterval < 2 ^ cfg.timeW ∧ cfg.animInterval < 2 ^ cfg.timeW)
          ∧ (cfg.btnPos.p1Start ≤ 7 ∧ cfg.btnPos.p2Start ≤ 7 ∧ cfg.btnPos.vefx ≤ 7 ∧ cfg.btnPos.effect ≤ 7
            ∧ cfg.btnPos.creditCounter ≤ 7)
          ∧ cfg.btnPos.p1Start ≠ cfg.btnPos.p2Start ∧ cfg.btnPos.p1Start ≠ cfg.btnPos.vefx
          ∧ cfg.btnPos.p1Start ≠ cfg.btnPos.effect ∧ cfg.btnPos.p1Start ≠ cfg.btnPos.creditCounter
          ∧ cfg.btnPos.p2Start ≠ cfg.btnPos.vefx ∧ cfg.btnPos.p2Start ≠ cfg.btnPos.effect
          ∧ cfg.btnPos.p2Start ≠ cfg.btnPos.creditCounter ∧ cfg.btnPos.vefx ≠ cfg.btnPos.effect
          ∧ cfg.btnPos.vefx ≠ cfg.btnPos.creditCounter ∧ cfg.btnPos.effect ≠ cfg.btnPos.creditCounter
        then t.mode = .ready ∧ t.fault = none
        else t.mode = .unconfigured ∧ t.fault = some .config)

/-- `State.reset` is what `RESET` with the vector configuration at time 0 makes of the power-up state. The configuration,
the time and the values rule R33 does not give are the model's choice (assumption log 2 and 5). -/
def Obligations.ResetStateIsAfterReset : Prop :=
  exec (.reset Config.vectorCfg 0) State.powerUp = .next State.reset

/-! ### The transport -/

/-- `WRITE_BIT(b)` (rule R68): one bit cell. -/
def Obligations.WriteBitSendsOneCell : Prop :=
  ∀ (b : Bool) (s : State), exec (.writeBit b) s = .next { s with
    clk := .driven true, dout := .driven b, reply := .done
    events := [.wait s.cfg.bitDelay, .clk true, .wait s.cfg.bitDelay, .dout b, .clk false] ++ s.events }

/-- `READ_BIT()` (rule R69): one clock cycle, then one sample; DataOut is not driven. -/
def Obligations.ReadBitSamplesAfterOneCycle : Prop :=
  ∀ s : State, exec .readBit s = .next { s with
    clk := .driven true, dataIn := s.dataIn.skip 1, reply := .bit (s.sampleAt 0)
    events := [.sample (s.sampleAt 0), .wait s.cfg.bitDelay, .clk true, .wait s.cfg.bitDelay, .clk false] ++ s.events }

/-- `XFER_BIT(b)` (rule R70): one bit cell, then one sample after its second hold. -/
def Obligations.XferBitSendsAndSamples : Prop :=
  ∀ (b : Bool) (s : State), exec (.xferBit b) s = .next { s with
    clk := .driven true, dout := .driven b, dataIn := s.dataIn.skip 1, reply := .bit (s.sampleAt 0)
    events := [.sample (s.sampleAt 0), .wait s.cfg.bitDelay, .clk true, .wait s.cfg.bitDelay, .dout b, .clk false]
      ++ s.events }

/-- `SAMPLE_ACK()` (rule R71): one sample, no clock edge, no delay. -/
def Obligations.SampleAckOnlySamples : Prop :=
  ∀ s : State, exec .sampleAck s = .next { s with
    dataIn := s.dataIn.skip 1, reply := .bit (s.sampleAt 0), events := .sample (s.sampleAt 0) :: s.events }

/-! ### Transfers -/

/-- `TRANSFER(a, d)` in `READY` with both arguments of 8 bits (rules R74, R77, R80): one transfer, whose result
`(rx, ack)` is handed back; the engine is `READY` again. That the five datapath fields keep the last values the transfer gave
them is the model's reading (assumption log 5). -/
def Obligations.TransferCompletes : Prop :=
  ∀ (s : State) (a d : Nat), s.mode = .ready → a ≤ 0xFF → d ≤ 0xFF →
    exec (.transfer a d) s = .next { afterTransfer (BitVec.ofNat 8 a) (BitVec.ofNat 8 d) s with
      reply := .rxAck (s.rxFrom 0) (s.ackFrom 0) }

/-- The trace of one transfer (rule R79): exactly the 91 events, with 16 falling and 16 rising clock edges, 32 holds, 16
`DOUT` events, 9 samples and 2 Enable events, Enable asserted first and de-asserted last. -/
def Obligations.TransferTraceHas91Events : Prop :=
  ∀ (s : State) (a d : Byte), s.mode = .ready →
    ∃ (t : State) (E : List Event), exec (.transfer a.toNat d.toNat) s = .next t ∧ t.trace = s.trace ++ E
      ∧ E = [.en false]
          ++ ([7, 6, 5, 4, 3, 2, 1, 0] : List Nat).flatMap (fun i =>
            [.clk false, .dout ((wireAddr s.cfg a).getLsbD i), .wait s.cfg.bitDelay, .clk true, .wait s.cfg.bitDelay])
          ++ [.sample (s.sampleAt 0)]
          ++ ([7, 6, 5, 4, 3, 2, 1, 0] : List Nat).flatMap (fun i =>
            [.clk false, .dout ((wireData s.cfg d).getLsbD i), .wait s.cfg.bitDelay, .clk true, .wait s.cfg.bitDelay,
             .sample (s.sampleAt (1 + (7 - i)))])
          ++ [.en true]
      ∧ E.length = 91
      ∧ E.countP (· == .clk false) = 16 ∧ E.countP (· == .clk true) = 16
      ∧ E.countP (· == .wait s.cfg.bitDelay) = 32
      ∧ E.countP (fun e => e == .dout true || e == .dout false) = 16
      ∧ E.countP (fun e => e == .sample true || e == .sample false) = 9
      ∧ E.countP (fun e => e == .en true || e == .en false) = 2
      ∧ E.head? = some (.en false) ∧ E.getLast? = some (.en true)

/-- An absent acknowledgment changes nothing that follows: of two runs of one transfer that differ only in the
acknowledgment sample, the received bytes and every field but the two acknowledgment flags agree, and the traces differ
only in that sample. That `S.last_ack` follows the sample is the model's reading of rule R78 beside rule R77 (assumption log
17); that `S.ack` and the other datapath fields keep their last values is assumption log 5. -/
def Obligations.AbsentAckChangesOnlyTheFlag : Prop :=
  ∀ (s : State) (a d : Byte) (v v' : Bool) (xs : List Bool), s.mode = .ready →
    ∃ t t' : State,
      exec (.transfer a.toNat d.toNat) { s with dataIn := { s.dataIn with script := v :: xs } } = .next t
      ∧ exec (.transfer a.toNat d.toNat) { s with dataIn := { s.dataIn with script := v' :: xs } } = .next t'
      ∧ t.ack = !v ∧ t.lastAck = some (!v) ∧ t.reply = .rxAck t.rx (!v)
      ∧ t' = { t with ack := !v', lastAck := some (!v'), reply := .rxAck t.rx (!v'), events := t'.events }
      ∧ ∃ before after : List Event, before.length = 41 ∧ after.length = 49
          ∧ t.trace = s.trace ++ before ++ [.sample v] ++ after ∧ t'.trace = s.trace ++ before ++ [.sample v'] ++ after

/-- The wire address (rules R51, R52): under `OR7` bits 2:0 are forced to 1 and bits 7:3 kept, under `AND7` bits 2:0 are
kept and bits 7:3 cleared, whatever `INVERT_TX` is; so every table address is its own wire address under `OR7` and becomes
0x07 under `AND7`. The bits are those shifted out in the address phase, bit 7 first. -/
def Obligations.WireAddressFollowsAddrMode : Prop :=
  (∀ (s : State) (a d : Byte), s.mode = .ready →
    ∃ (t : State) (A : Byte), exec (.transfer a.toNat d.toNat) s = .next t
      ∧ (s.cfg.addrMode = .or7 → ∀ i : Nat, i < 8 → A.getLsbD i = (decide (i < 3) || a.getLsbD i))
      ∧ (s.cfg.addrMode = .and7 → ∀ i : Nat, i < 8 → A.getLsbD i = (decide (i < 3) && a.getLsbD i))
      ∧ (t.trace.drop s.trace.length).take 41 = [.en false]
          ++ ([7, 6, 5, 4, 3, 2, 1, 0] : List Nat).flatMap (fun i =>
            [.clk false, .dout (A.getLsbD i), .wait s.cfg.bitDelay, .clk true, .wait s.cfg.bitDelay])
      ∧ ∀ b : Bool, ∃ t' : State,
          exec (.transfer a.toNat d.toNat) { s with cfg := { s.cfg with invertTx := b } } = .next t'
            ∧ (t'.trace.drop s.trace.length).take 41 = (t.trace.drop s.trace.length).take 41)
    ∧ ∀ (c : Cfg) (r : RegName) (a : Byte), (r, a) ∈ addressMap →
        (c.addrMode = .or7 → wireAddr c a = a) ∧ (c.addrMode = .and7 → wireAddr c a = 0x07)

/-- The wire data byte (rule R53): the complement of the data byte exactly when `INVERT_TX` is set. Its bits are those shifted
out in the data phase, bit 7 first. -/
def Obligations.WireDataFollowsPolicy : Prop :=
  ∀ (s : State) (a d : Byte), s.mode = .ready →
    ∃ (t : State) (W : Byte), exec (.transfer a.toNat d.toNat) s = .next t
      ∧ (∀ i : Nat, i < 8 → W.getLsbD i = (s.cfg.invertTx ^^ d.getLsbD i))
      ∧ ((t.trace.drop s.trace.length).drop 42).take 48 =
          ([7, 6, 5, 4, 3, 2, 1, 0] : List Nat).flatMap (fun i =>
            [.clk false, .dout (W.getLsbD i), .wait s.cfg.bitDelay, .clk true, .wait s.cfg.bitDelay,
             .sample (s.sampleAt (1 + (7 - i)))])

/-- The received byte (rule R54): the sample of the `k`-th data cell fills bit `7 - k` under `MSB_FIRST` and bit `k` under
`LSB_FIRST`; `INVERT_TX` has no part in it. The byte stands in the result register `S.last_rx` and is handed back. -/
def Obligations.ReceivedByteFromSamples : Prop :=
  ∀ (s : State) (a d : Byte), s.mode = .ready →
    ∃ (t : State) (b : Byte) (ack : Bool), exec (.transfer a.toNat d.toNat) s = .next t
      ∧ t.lastRx = some b ∧ t.reply = .rxAck b ack
      ∧ ∀ k : Nat, k < 8 →
        (s.cfg.rxOrder = .msbFirst → b.getLsbD (7 - k) = s.sampleAt (1 + k))
        ∧ (s.cfg.rxOrder = .lsbFirst → b.getLsbD k = s.sampleAt (1 + k))

/-! ### Register operations and refusals -/

/-- `READ_REG` of an input register in `READY` (rules R81, R82): one transfer to the register's address with the filler
0x00; the register's snapshot is written, acknowledged or not, and the byte handed back (rule R22). That the five datapath
fields keep the transfer's last values is the model's reading (assumption log 5). -/
def Obligations.ReadRegReadsAndSnapshots : Prop :=
  ∀ (s : State) (r : InputReg) (a : Byte), s.mode = .ready → (RegName.input r, a) ∈ addressMap →
    exec (.readReg (.input r)) s = .next { (afterTransfer a 0x00 s).setSnapshot r (s.rxFrom 0) with
      reply := .byte (s.rxFrom 0) }

/-- `WRITE_REG` of an output register in `READY` with a byte (rule R83): one transfer to the register's address that sends
the byte; nothing else changes. That the five datapath fields keep the transfer's last values is the model's reading
(assumption log 5). -/
def Obligations.WriteRegSendsOneFrame : Prop :=
  ∀ (s : State) (r : OutputReg) (a : Byte) (v : Nat), s.mode = .ready → (RegName.output r, a) ∈ addressMap → v ≤ 0xFF →
    exec (.writeReg (.output r) v) s = .next { afterTransfer a (BitVec.ofNat 8 v) s with reply := .done }

/-- In `READY` a request with a bad argument is refused, the direction before the range (rules R80, R81, R83, R125), and
nothing changes. -/
def Obligations.BadArgumentsRefused : Prop :=
  ∀ s : State, s.mode = .ready →
    (∀ r : OutputReg, exec (.readReg (.output r)) s = .next { s with reply := .refused .direction })
    ∧ (∀ (r : InputReg) (v : Nat), exec (.writeReg (.input r) v) s = .next { s with reply := .refused .direction })
    ∧ (∀ (r : OutputReg) (v : Nat), 0xFF < v →
        exec (.writeReg (.output r) v) s = .next { s with reply := .refused .argRange })
    ∧ (∀ a d : Nat, 0xFF < a ∨ 0xFF < d → exec (.transfer a d) s = .next { s with reply := .refused .argRange })
    ∧ ∀ (i : Fin 9) (code : Nat), 0xFF < code → exec (.seg i code) s = .next { s with reply := .refused .argRange }

/-- In every mode but `READY` a transfer, a register operation, a tick, a pseudo-instruction and a frame, with any
arguments, are refused `NOT_READY` before any other check, and nothing changes (rules R28, R120, R125). That a frame is an
operation, refused as the one it stands for, is the model's reading of the table's frame rows (assumption log 6). -/
def Obligations.NotReadyRefuses : Prop :=
  ∀ (s : State) (i : Instr), s.mode ≠ .ready →
    ((∃ a d, i = .transfer a d) ∨ (∃ r, i = .readReg r) ∨ (∃ r v, i = .writeReg r v) ∨ i = .tick ∨ (∃ k, i = .lamp k)
      ∨ (∃ c v, i = .seg c v) ∨ (∃ b, i = .neon b) ∨ (∃ f : FrameWord, i = decodeFrame f)) →
    exec i s = .next { s with reply := .refused .notReady }

/-! ### Frames as operations -/

/-- The six frames of input registers in `READY`: with the wire byte of the filler, the frame is `READ_REG`'s (rules R81,
R82) and the snapshot is written; with any other wire byte it is a `TRANSFER`'s (rule R74) that sends that byte. This
reading of the table's frame rows is the model's (assumption log 6), and so are the values the five datapath fields keep
(assumption log 5). -/
def Obligations.InputFrameReadsOrTransfers : Prop :=
  ∀ (r : InputReg) (a : Byte) (F : Byte → Instr), (r, a, F) ∈ inputFrames →
    ∀ (s : State) (w : Byte), s.mode = .ready →
      exec (F w) s = .next
        (if w = wireData s.cfg 0x00 then
          { (afterTransfer a 0x00 s).setSnapshot r (s.rxFrom 0) with reply := .byte (s.rxFrom 0) }
        else { afterTransfer a (wireData s.cfg w) s with reply := .rxAck (s.rxFrom 0) (s.ackFrom 0) })

/-- The twelve frames of output registers in `READY`: the `WRITE_REG` (rule R83) whose wire data byte is the frame's. This
reading of the table's frame rows is the model's (assumption log 6), and so are the values the five datapath fields keep
(assumption log 5). -/
def Obligations.OutputFrameWrites : Prop :=
  ∀ (r : OutputReg) (a : Byte) (F : Byte → Instr), (r, a, F) ∈ outputFrames →
    ∀ (s : State) (w : Byte), s.mode = .ready →
      exec (F w) s = .next { afterTransfer a (wireData s.cfg w) s with reply := .done }
        ∧ exec (F w) s = exec (.writeReg (.output r) (wireData s.cfg w).toNat) s

/-- The frame that selects no register in `READY`: the `TRANSFER` to its address whose wire data byte is the frame's (rules
R41, R63). This reading of the table's frame row is the model's (assumption log 6), and so are the values the five datapath
fields keep (assumption log 5). -/
def Obligations.UnassignedFrameTransfers : Prop :=
  ∀ (s : State) (a w : Byte), s.mode = .ready →
    exec (.frameUnassigned a w) s = .next { afterTransfer a (wireData s.cfg w) s with
      reply := .rxAck (s.rxFrom 0) (s.ackFrom 0) }

/-- Running a frame word puts that very frame on the bus: whenever `ADDR_MODE` leaves the word's address byte as it is, the
operation decoded from the word shifts out exactly its two bytes in one transfer (rules R48, R62). That a frame word is run
as an operation is the model's reading (assumption log 6), and so is that `S.tx_addr` and `S.tx_data` hold the two bytes
afterwards (assumption log 5). -/
def Obligations.FrameWordGoesOnTheWire : Prop :=
  ∀ (s : State) (f : FrameWord), s.mode = .ready → wireAddr s.cfg (frameAddr f) = frameAddr f →
    ∃ t : State, exec (decodeFrame f) s = .next t ∧ t.txAddr = frameAddr f ∧ t.txData = frameData f
      ∧ t.trace = s.trace ++ transferEvents s.cfg.bitDelay (frameAddr f) (frameData f) (s.sampleAt 0)
          fun k => s.sampleAt (1 + k)

/-! ### Views -/

/-- `DECODE_RAW` and `ENCODE_RAW` (rule R87): the byte unchanged; the raw registers are the turntables, ButtonLamps and the
segment cells. -/
def Obligations.RawViewsPassTheByte : Prop :=
  (∀ (b : Byte) (s : State), exec (.decodeRaw b) s = .next { s with reply := .byte b }
    ∧ exec (.encodeRaw b) s = .next { s with reply := .byte b })
    ∧ ∀ r : RegName, viewOf r = .raw ↔
        r = .input .turntableP1 ∨ r = .input .turntableP2 ∨ r = .output .buttonLamps ∨ ∃ i, r = .output (.segment i)

/-- `DECODE_SLIDER` and `ENCODE_SLIDER` (rules R88, R89): the low nibble is `first`, the high nibble `second`; a value
above 15 is refused. -/
def Obligations.SliderViewIsTwoNibbles : Prop :=
  (∀ (b : Byte) (s : State), exec (.decodeSlider b) s = .next { s with
      reply := .slider { first := BitVec.ofNat 4 (b.toNat % 16), second := BitVec.ofNat 4 (b.toNat / 16) } })
    ∧ ∀ (first second : Nat) (s : State), exec (.encodeSlider first second) s =
        if first ≤ 15 ∧ second ≤ 15 then .next { s with reply := .byte (BitVec.ofNat 8 (second * 16 + first)) }
        else .next { s with reply := .refused .argRange }

/-- `DECODE_BUTTONS` and `ENCODE_BUTTONS` (rules R90, R91): each named field is the bit at its `BTN_POS` index; every other
bit is dropped on decode and 0 on encode. That an index above 7, which only an invalid `Cfg` has, reads 0 and encodes nothing
is the model's reading (assumption log 19). -/
def Obligations.ButtonsViewIsFiveBits : Prop :=
  (∀ (b : Byte) (s : State), exec (.decodeButtons b) s = .next { s with
      reply := .buttons {
        p1Start := b.getLsbD s.cfg.btnPos.p1Start, p2Start := b.getLsbD s.cfg.btnPos.p2Start
        vefx := b.getLsbD s.cfg.btnPos.vefx, effect := b.getLsbD s.cfg.btnPos.effect
        creditCounter := b.getLsbD s.cfg.btnPos.creditCounter } })
    ∧ ∀ (v : ButtonsView) (s : State), ∃ b : Byte, exec (.encodeButtons v) s = .next { s with reply := .byte b }
        ∧ ∀ i : Nat, i < 8 → b.getLsbD i =
            ((v.p1Start && decide (i = s.cfg.btnPos.p1Start)) || (v.p2Start && decide (i = s.cfg.btnPos.p2Start))
              || (v.vefx && decide (i = s.cfg.btnPos.vefx)) || (v.effect && decide (i = s.cfg.btnPos.effect))
              || (v.creditCounter && decide (i = s.cfg.btnPos.creditCounter)))

/-- `DECODE_SPOT` and `ENCODE_SPOT` (rules R92, R93), in the bit order of rule R58: bits 7 to 0 are lamps 3, 2, 1, 0, 4, 5,
6, 7. -/
def Obligations.SpotViewIsEightLamps : Prop :=
  (∀ (b : Byte) (s : State), exec (.decodeSpot b) s = .next { s with
      reply := .spot {
        lamp3 := b.getLsbD 7, lamp2 := b.getLsbD 6, lamp1 := b.getLsbD 5, lamp0 := b.getLsbD 4
        lamp4 := b.getLsbD 3, lamp5 := b.getLsbD 2, lamp6 := b.getLsbD 1, lamp7 := b.getLsbD 0 } })
    ∧ ∀ (v : SpotView) (s : State), ∃ b : Byte, exec (.encodeSpot v) s = .next { s with reply := .byte b }
        ∧ b.getLsbD 7 = v.lamp3 ∧ b.getLsbD 6 = v.lamp2 ∧ b.getLsbD 5 = v.lamp1 ∧ b.getLsbD 4 = v.lamp0
        ∧ b.getLsbD 3 = v.lamp4 ∧ b.getLsbD 2 = v.lamp5 ∧ b.getLsbD 1 = v.lamp6 ∧ b.getLsbD 0 = v.lamp7

/-- `DECODE_NEON` and `ENCODE_NEON` (rules R94, R95): the "on" bit is the bit at `NEON_BIT`; every other bit is dropped on
decode and 0 on encode. That a `NEON_BIT` above 7, which only an invalid `Cfg` has, reads 0 and encodes nothing is the model's
reading (assumption log 19). -/
def Obligations.NeonViewIsOneBit : Prop :=
  (∀ (b : Byte) (s : State), exec (.decodeNeon b) s = .next { s with reply := .bit (b.getLsbD s.cfg.neonBit) })
    ∧ ∀ (on : Bool) (s : State), ∃ b : Byte, exec (.encodeNeon on) s = .next { s with reply := .byte b }
        ∧ ∀ i : Nat, i < 8 → b.getLsbD i = (on && decide (i = s.cfg.neonBit))

/-- The round-trip laws (rule R96), under a valid `Cfg`: decoding an encoded view gives it back; encoding a decoded byte
gives the byte back for raw bytes, sliders and spotlights, and the byte with its unused bits cleared for buttons and
neon. -/
def Obligations.ViewsRoundTrip : Prop :=
  ∀ s : State, cfgValid s.cfg = true →
    (∀ b : Byte, ∃ b' : Byte, exec (.encodeRaw b) s = .next { s with reply := .byte b' }
      ∧ exec (.decodeRaw b') s = .next { s with reply := .byte b })
    ∧ (∀ v : SliderView, ∃ b : Byte,
        exec (.encodeSlider v.first.toNat v.second.toNat) s = .next { s with reply := .byte b }
          ∧ exec (.decodeSlider b) s = .next { s with reply := .slider v })
    ∧ (∀ v : ButtonsView, ∃ b : Byte, exec (.encodeButtons v) s = .next { s with reply := .byte b }
        ∧ exec (.decodeButtons b) s = .next { s with reply := .buttons v })
    ∧ (∀ v : SpotView, ∃ b : Byte, exec (.encodeSpot v) s = .next { s with reply := .byte b }
        ∧ exec (.decodeSpot b) s = .next { s with reply := .spot v })
    ∧ (∀ on : Bool, ∃ b : Byte, exec (.encodeNeon on) s = .next { s with reply := .byte b }
        ∧ exec (.decodeNeon b) s = .next { s with reply := .bit on })
    ∧ ∀ b : Byte,
        (∃ b' : Byte, exec (.decodeRaw b) s = .next { s with reply := .byte b' }
          ∧ exec (.encodeRaw b') s = .next { s with reply := .byte b })
        ∧ (∃ v : SliderView, exec (.decodeSlider b) s = .next { s with reply := .slider v }
          ∧ exec (.encodeSlider v.first.toNat v.second.toNat) s = .next { s with reply := .byte b })
        ∧ (∃ v : SpotView, exec (.decodeSpot b) s = .next { s with reply := .spot v }
          ∧ exec (.encodeSpot v) s = .next { s with reply := .byte b })
        ∧ (∃ v : ButtonsView, exec (.decodeButtons b) s = .next { s with reply := .buttons v }
          ∧ exec (.encodeButtons v) s = .next { s with reply := .byte (b &&&
              (1#8 <<< s.cfg.btnPos.p1Start ||| 1#8 <<< s.cfg.btnPos.p2Start ||| 1#8 <<< s.cfg.btnPos.vefx
                ||| 1#8 <<< s.cfg.btnPos.effect ||| 1#8 <<< s.cfg.btnPos.creditCounter)) })
        ∧ ∃ on : Bool, exec (.decodeNeon b) s = .next { s with reply := .bit on }
          ∧ exec (.encodeNeon on) s = .next { s with reply := .byte (b &&& 1#8 <<< s.cfg.neonBit) }

/-! ### The tick -/

/-- `TICK` in `READY` (rules R99 to R102): the six reads with their snapshots, the chase step at the first time sample and
the Spotlights and Neon writes it decides, the scroll step at the second time sample and the nine segment writes it decides,
all in the order of rule R100, with the last write's results in the result registers. Nothing else changes. That the five
datapath fields keep the last transfer's values is the model's reading (assumption log 5). -/
def Obligations.TickRunsThePoll : Prop :=
  ∀ s : State, s.mode = .ready → exec .tick s = .next { afterTick s with reply := .done }

/-- The trace of a tick (rule R103): 17 transfers one after another with no event between two, 1547 events, of which 17
assert Enable, 153 are samples and 544 are holds, whatever the samples are. -/
def Obligations.TickTraceIsSeventeenFrames : Prop :=
  ∀ s : State, s.mode = .ready →
    ∃ (t : State) (frames : List (List Event)), exec .tick s = .next t ∧ t.trace = s.trace ++ frames.flatten
      ∧ frames.length = 17 ∧ (∀ E ∈ frames, E.length = 91 ∧ E.head? = some (.en false) ∧ E.getLast? = some (.en true))
      ∧ frames.flatten.length = 1547
      ∧ frames.flatten.countP (· == .en false) = 17
      ∧ frames.flatten.countP (fun e => e == .sample true || e == .sample false) = 153
      ∧ frames.flatten.countP (· == .wait s.cfg.bitDelay) = 544

/-! ### The schedulers -/

/-- `SCROLL_STEP(t)` (rule R109): the cursor advances by one, wrapping to 0 at `TEXT_LEN`, and the timestamp moves to the low
`TIME_W` bits of `t`, exactly when the elapsed time has reached the interval; otherwise nothing changes. For a time of
`TIME_W` bits these are `t`; what a wider one leaves is the model's reading (assumption log 15). -/
def Obligations.ScrollStepAdvancesCursor : Prop :=
  ∀ (t : Nat) (s : State), exec (.scrollStep t) s = .next
    (if s.cfg.scrollInterval ≤ elapsed s.cfg t s.lastScroll then
      { s with
        cursor := if s.cursor + 1 = s.cfg.textLen then 0 else s.cursor + 1
        lastScroll := t % 2 ^ s.cfg.timeW, reply := .done }
    else { s with reply := .done })

/-- The cursor invariant and its period (rule R110): reset leaves the cursor at 0, a scroll step keeps it below `TEXT_LEN`,
and from 0, after any number `n` of advances, it is `n mod TEXT_LEN`; so `TEXT_LEN` advances bring it back to 0. -/
def Obligations.CursorHasPeriodTextLen : Prop :=
  (∀ (cfg : Cfg) (t0 : Nat) (s : State), s.mode ≠ .busy → t0 < 2 ^ cfg.timeW → cfgValid cfg = true →
    ∃ t : State, exec (.reset cfg t0) s = .next t ∧ t.cursor = 0 ∧ t.cursor < t.cfg.textLen ∧ t.cfg.textLen ≤ 64)
  ∧ (∀ (t : Nat) (s : State), s.cursor < s.cfg.textLen →
      ∃ s' : State, exec (.scrollStep t) s = .next s' ∧ s'.cursor < s'.cfg.textLen)
  ∧ ∀ (ts : List Nat) (s : State), s.cursor = 0 → 1 ≤ s.cfg.textLen → everyScrollAdvances ts s →
      (ts.foldl (fun s t => scrollStep t s) s).cursor = ts.length % s.cfg.textLen

/-- `RENDER(i)` (rule R111): the text byte at `cursor + i`, computed without wrap, while that is below `TEXT_LEN`; else the
blank 0x20. Only a configuration that reset rejects has a text too short to hold that byte; the byte is then a free value
(assumption log 10). -/
def Obligations.RenderShowsTheWindow : Prop :=
  ∀ (i : Fin 9) (s : State),
    (∀ h : s.cursor + i < s.cfg.text.length, s.cursor + i < s.cfg.textLen →
      exec (.render i) s = .next { s with reply := .byte (s.cfg.text[s.cursor + i]) })
    ∧ (s.cfg.text.length ≤ s.cursor + i → s.cursor + i < s.cfg.textLen →
      exec (.render i) s = .next { s with reply := .byte (Config.freeTextByte (s.cursor + i)) })
    ∧ (s.cfg.textLen ≤ s.cursor + i → exec (.render i) s = .next { s with reply := .byte 0x20 })

/-- `CHASE_STEP(t)` (rule R113): the index advances by one modulo 8, and the timestamp moves to the low `TIME_W` bits of `t`,
exactly when the elapsed time exceeds the interval; otherwise nothing changes. For a time of `TIME_W` bits these are `t`;
what a wider one leaves is the model's reading (assumption log 15). -/
def Obligations.ChaseStepAdvancesIndex : Prop :=
  ∀ (t : Nat) (s : State), exec (.chaseStep t) s = .next
    (if s.cfg.animInterval < elapsed s.cfg t s.lastAnim then
      { s with
        animIdx := Fin.ofNat 8 ((s.animIdx : Nat) + 1), lastAnim := t % 2 ^ s.cfg.timeW, reply := .done }
    else { s with reply := .done })

/-- The lamp index cycles with period 8 and exactly one lamp bit is set at all times (rule R114): after any number `n` of
advances the index has moved by `n` modulo 8, and every byte `SPOT_BYTE` gives has exactly one bit set. -/
def Obligations.LampIndexHasPeriodEight : Prop :=
  (∀ (ts : List Nat) (s : State), everyChaseAdvances ts s →
    ((ts.foldl (fun s t => chaseStep t s) s).animIdx : Nat) = ((s.animIdx : Nat) + ts.length) % 8)
  ∧ ∀ (k : Fin 8) (s : State), ∃ (b : Byte) (n : Nat), exec (.spotByte k) s = .next { s with reply := .byte b }
      ∧ n < 8 ∧ ∀ i : Nat, i < 8 → b.getLsbD i = decide (i = n)

/-- `SPOT_BYTE(k)` (rule R115): the table of the eight bytes. -/
def Obligations.SpotByteTable : Prop :=
  ∀ s : State,
    exec (.spotByte 0) s = .next { s with reply := .byte 0x10 } ∧ exec (.spotByte 1) s = .next { s with reply := .byte 0x20 }
    ∧ exec (.spotByte 2) s = .next { s with reply := .byte 0x40 } ∧ exec (.spotByte 3) s = .next { s with reply := .byte 0x80 }
    ∧ exec (.spotByte 4) s = .next { s with reply := .byte 0x08 } ∧ exec (.spotByte 5) s = .next { s with reply := .byte 0x04 }
    ∧ exec (.spotByte 6) s = .next { s with reply := .byte 0x02 } ∧ exec (.spotByte 7) s = .next { s with reply := .byte 0x01 }

/-- `NEON_BYTE(k)` (rule R116): the "on" bit at `NEON_BIT` is `NEON_FN(k)`, every other bit is 0. That the byte is 0 for a
`NEON_BIT` above 7, which only an invalid `Cfg` has, is the model's reading (assumption log 19). -/
def Obligations.NeonByteFollowsNeonFn : Prop :=
  ∀ (k : Fin 8) (s : State), ∃ b : Byte, exec (.neonByte k) s = .next { s with reply := .byte b }
    ∧ ∀ i : Nat, i < 8 → b.getLsbD i = (s.cfg.neonFn.getLsbD k && decide (i = s.cfg.neonBit))

/-- Elapsed time (rule R107): the difference modulo `N = 2^TIME_W`, below `N`; it is the true elapsed time when fewer than
`N` units have passed. -/
def Obligations.ElapsedIsTrueElapsed : Prop :=
  ∀ c : Cfg,
    (∀ t last : Nat, (elapsed c t last : Int) = ((t : Int) - (last : Int)) % ((2 ^ c.timeW : Nat) : Int)
      ∧ elapsed c t last < 2 ^ c.timeW)
    ∧ ∀ T L : Nat, L ≤ T → T - L < 2 ^ c.timeW →
        elapsed c (T % 2 ^ c.timeW) (L % 2 ^ c.timeW) = T - L

/-! ### Reading state back -/

/-- `PEEK` of a readable field that has a value, in `READY` (rule R119): the value is handed back and nothing changes; a
named field is read through its register's view. `S.mode` and `S.fault` are readable in every mode but `BUSY`. -/
def Obligations.PeekReadsWrittenFields : Prop :=
  ∀ s : State,
    (s.mode = .ready →
      (∀ (r : InputReg) (b : Byte), s.snapshot r = some b →
        exec (.peek (.snapshot r)) s = .next { s with reply := .byte b })
      ∧ (∀ (r : InputReg) (b : Byte), (r = .volumePair12 ∨ r = .volumePair34 ∨ r = .volume5) → s.snapshot r = some b →
        exec (.peek (.named (.input r) .first)) s = .next { s with reply := .nibble (b.extractLsb' 0 4) }
        ∧ exec (.peek (.named (.input r) .second)) s = .next { s with reply := .nibble (b.extractLsb' 4 4) })
      ∧ (∀ b : Byte, s.snapshot .buttons = some b →
        exec (.peek (.named (.input .buttons) .p1Start)) s = .next { s with reply := .bit (b.getLsbD s.cfg.btnPos.p1Start) }
        ∧ exec (.peek (.named (.input .buttons) .p2Start)) s = .next { s with reply := .bit (b.getLsbD s.cfg.btnPos.p2Start) }
        ∧ exec (.peek (.named (.input .buttons) .vefx)) s = .next { s with reply := .bit (b.getLsbD s.cfg.btnPos.vefx) }
        ∧ exec (.peek (.named (.input .buttons) .effect)) s = .next { s with reply := .bit (b.getLsbD s.cfg.btnPos.effect) }
        ∧ exec (.peek (.named (.input .buttons) .creditCounter)) s =
            .next { s with reply := .bit (b.getLsbD s.cfg.btnPos.creditCounter) })
      ∧ (∀ b : Byte, s.lastRx = some b → exec (.peek .lastRx) s = .next { s with reply := .byte b })
      ∧ (∀ b : Bool, s.lastAck = some b → exec (.peek .lastAck) s = .next { s with reply := .bit b })
      ∧ exec (.peek .cursor) s = .next { s with reply := .cursor s.cursor }
      ∧ exec (.peek .animIdx) s = .next { s with reply := .animIdx s.animIdx })
    ∧ (s.mode ≠ .busy →
      exec (.peek .mode) s = .next { s with reply := .mode s.mode }
      ∧ exec (.peek .fault) s = .next { s with reply := .fault s.fault })

/-- `PEEK` of a readable field that has no value, in `READY` (rules R119, R123): the fault `UNWRITTEN`, recorded in
`S.fault`; the engine is `FAULTED` and nothing else changes. -/
def Obligations.PeekUnwrittenFaults : Prop :=
  ∀ (s : State) (f : PeekField), s.mode = .ready →
    ((∃ r, f = .snapshot r ∧ s.snapshot r = none) ∨ (f = .lastRx ∧ s.lastRx = none) ∨ (f = .lastAck ∧ s.lastAck = none)
      ∨ (∃ r v, f = .named (.input r) v ∧ fieldView v = viewOf (.input r) ∧ s.snapshot r = none)) →
    exec (.peek f) s = .next { s with fault := some .unwritten, mode := .faulted, reply := .faulted .unwritten }

/-- The requests to `PEEK` that are refused, in the order the checks are made (rules R97, R125): a field of another
register's view in any mode, any field while `BUSY`, any field but `S.mode` and `S.fault` outside `READY`, and in `READY` a
field that rule R119 does not list. Where rule R119's pseudocode orders the last two the other way, rule R125 is followed
(assumption log 8). -/
def Obligations.PeekRefusals : Prop :=
  ∀ s : State,
    (∀ (r : RegName) (v : ViewField), fieldView v ≠ viewOf r →
      exec (.peek (.named r v)) s = .next { s with reply := .refused .pairing })
    ∧ (∀ f : PeekField, (∀ r v, f = .named r v → fieldView v = viewOf r) → s.mode = .busy →
        exec (.peek f) s = .next { s with reply := .refused .notReady })
    ∧ (∀ f : PeekField, (∀ r v, f = .named r v → fieldView v = viewOf r) → f ≠ .mode → f ≠ .fault → s.mode ≠ .ready →
        exec (.peek f) s = .next { s with reply := .refused .notReady })
    ∧ (∀ f : PeekField, f ∈ ([.lastScroll, .lastAnim, .clk, .enN, .dout, .phase, .bitn, .txAddr, .txData, .rx, .ack, .seq,
          .cfg] : List PeekField) → s.mode = .ready →
        exec (.peek f) s = .next { s with reply := .refused .argRange })
    ∧ ∀ (r : OutputReg) (v : ViewField), fieldView v = viewOf (.output r) → s.mode = .ready →
        exec (.peek (.named (.output r) v)) s = .next { s with reply := .refused .argRange }

/-! ### Pseudo-instructions -/

/-- The pseudo-instructions in `READY` (rule R64): `LAMP k` writes the byte of the one lamp `k` to Spotlights, `SEG n, c`
writes the character code to SixteenSegment[n], `NEON b` writes the "on" bit to Neon. That the five datapath fields keep the
transfer's last values is the model's reading (assumption log 5), and so is a `NEON_BIT` above 7 (assumption log 19). -/
def Obligations.PseudoInstructionsWrite : Prop :=
  ∀ s : State, s.mode = .ready →
    (∀ k : Fin 8, exec (.lamp k) s = .next { afterTransfer 0x87
        (1#8 <<< (if (k : Nat) < 4 then 4 + (k : Nat) else 7 - (k : Nat))) s with reply := .done })
    ∧ (∀ (i : Fin 9) (a : Byte) (code : Nat), (RegName.output (.segment i), a) ∈ addressMap → code ≤ 0xFF →
        exec (.seg i code) s = .next { afterTransfer a (BitVec.ofNat 8 code) s with reply := .done })
    ∧ ∀ on : Bool, exec (.neon on) s = .next { afterTransfer 0x8F ((if on then 1#8 else 0#8) <<< s.cfg.neonBit) s with
        reply := .done }

/-! ### The whole machine -/

/-- The invariant holds in `State.reset`, the state after the reset that the model chose: the vector configuration at time 0
(assumption log 2). -/
def Obligations.ResetStateHasInvariant : Prop := State.reset.Inv

/-- Every step keeps the invariant, from every state that has it and whatever the host requests. -/
def Obligations.StepKeepsInvariant : Prop :=
  ∀ s t : State, s.Inv → step s = .next t → t.Inv

/-- The model never stops: every operation in every state, and every step, answers a next state. That the engine's own faults
and refusals (rules R123, R124) are next states, in which it waits for a `RESET` or the next request, is the model's choice
(assumption log 4). -/
def Obligations.EngineNeverStops : Prop :=
  (∀ (i : Instr) (s : State), ∃ t : State, exec i s = .next t) ∧ ∀ s : State, ∃ t : State, step s = .next t

/-- Configuration is fixed between resets (rule R138): an operation leaves `Cfg` as it is, or it is a `RESET`, which, unless
it is refused, also returns the cursor, the animation index and both timestamps to their reset values and forgets every
snapshot. A `RESET` is refused in `BUSY`, and where its time is wider than the record's `TIME_W` bits (rule R63); that the
latter holds of an invalid record too, because the width is tested before the rest of the record, is the model's reading
(assumption log 15). -/
def Obligations.OnlyResetChangesCfg : Prop :=
  ∀ (i : Instr) (s t : State), exec i s = .next t →
    t.cfg = s.cfg ∧ (∀ cfg t0, i ≠ .reset cfg t0)
    ∨ ∃ cfg t0, i = .reset cfg t0 ∧
        (if s.mode = .busy ∨ 2 ^ cfg.timeW ≤ t0 then t.cfg = s.cfg
        else t.cfg = cfg ∧ t.cursor = 0 ∧ t.animIdx = 0 ∧ t.lastScroll = t0 ∧ t.lastAnim = t0
          ∧ ∀ r : InputReg, t.snapshot r = none)

/-- The only way out of `FAULTED` and `UNCONFIGURED` is `RESET` (rules R29, R128): every other operation, and every step
that runs one, leaves the mode and the fault register as they are. -/
def Obligations.OnlyResetLeavesFaulted : Prop :=
  (∀ (i : Instr) (s t : State), (s.mode = .faulted ∨ s.mode = .unconfigured) → (∀ cfg t0, i ≠ .reset cfg t0) →
    exec i s = .next t → t.mode = s.mode ∧ t.fault = s.fault)
  ∧ ∀ s t : State, (s.mode = .faulted ∨ s.mode = .unconfigured) →
      (∀ cfg t0 rest, s.requests ≠ .reset cfg t0 :: rest) → step s = .next t → t.mode = s.mode ∧ t.fault = s.fault

/-- A refusal rejects a request as a whole (rule R124): an operation that ends in a refusal changes no state and emits no
event; only the model's answer to the host tells of it. -/
def Obligations.RefusalChangesNothing : Prop :=
  ∀ (i : Instr) (r : RefuseReason) (s t : State), exec i s = .next t → t.reply = .refused r →
    t = { s with reply := .refused r }

/-- Faults are raised only by `RESET` and `PEEK` (rules R123, R127): an operation that ends in a fault is one of them; the
reason stands in `S.fault`; `PEEK` emits no event and changes nothing but the mode and the fault register. -/
def Obligations.FaultsOnlyByResetAndPeek : Prop :=
  ∀ (i : Instr) (r : FaultReason) (s t : State), exec i s = .next t → t.reply = .faulted r →
    t.fault = some r ∧
      ((∃ cfg t0, i = .reset cfg t0 ∧ r = .config ∧ t.mode = .unconfigured)
        ∨ ∃ f, i = .peek f ∧ r = .unwritten
            ∧ t = { s with fault := some .unwritten, mode := .faulted, reply := .faulted .unwritten })

/-- A snapshot is written only by a read of its register, by a tick or by reset (rules R18, R22): any other operation leaves
every snapshot as it is, and a read of one register leaves the other five. That an input register's frame is a read with the
filler's wire byte, and with any other byte writes no snapshot, is the model's choice (assumption log 6). -/
def Obligations.SnapshotsWrittenOnlyByReads : Prop :=
  ∀ (i : Instr) (s t : State) (r : InputReg), exec i s = .next t → t.snapshot r ≠ s.snapshot r →
    (∃ cfg t0, i = .reset cfg t0) ∨ i = .tick ∨ i = .readReg (.input r)
      ∨ ∃ w, w = wireData s.cfg 0x00 ∧ i = frameOf (.input r) w

/-- The scheduler state has one writer each (rules R24, R25, R118): an operation that changes the cursor or its timestamp is
`SCROLL_STEP`, `TICK` or `RESET`, and one that changes the lamp index or its timestamp is `CHASE_STEP`, `TICK` or
`RESET`. -/
def Obligations.SchedulerStateHasOneWriter : Prop :=
  ∀ (i : Instr) (s t : State), exec i s = .next t →
    (t.cursor ≠ s.cursor ∨ t.lastScroll ≠ s.lastScroll →
      (∃ x, i = .scrollStep x) ∨ i = .tick ∨ ∃ cfg t0, i = .reset cfg t0)
    ∧ (t.animIdx ≠ s.animIdx ∨ t.lastAnim ≠ s.lastAnim →
      (∃ x, i = .chaseStep x) ∨ i = .tick ∨ ∃ cfg t0, i = .reset cfg t0)

/-- The trace only grows: no operation takes back an event. That the trace of rule R13 is a field of the state which no
operation clears, `RESET` included, is the model's choice (assumption log 7). -/
def Obligations.TraceOnlyGrows : Prop :=
  ∀ (i : Instr) (s t : State), exec i s = .next t → ∃ E : List Event, t.trace = s.trace ++ E
end

