-- ==== Sys2Proof/Laws/Map.lean ====
section
/-! SUPPORT. The register map and the frame words: the 18 names as a list, so that a fact about every register is a finite
check, and the two halves of a frame word. -/

namespace Sys2Proof

@[simp] theorem frameData_append (a w : Byte) : frameData (a ++ w) = w := by
  apply BitVec.eq_of_getLsbD_eq
  intro i hi
  have h : (a ++ w).getLsbD i = if i < 8 then w.getLsbD i else a.getLsbD (i - 8) := BitVec.getLsbD_append
  simpa [frameData, hi] using h

@[simp] theorem frameAddr_append (a w : Byte) : frameAddr (a ++ w) = a := by
  apply BitVec.eq_of_getLsbD_eq
  intro i hi
  have h : (a ++ w).getLsbD (8 + i) = if 8 + i < 8 then w.getLsbD (8 + i) else a.getLsbD (8 + i - 8) :=
    BitVec.getLsbD_append
  simpa [frameAddr, hi] using h

/-- A frame word is its two bytes. -/
@[simp] theorem frameAddr_append_frameData (f : FrameWord) : frameAddr f ++ frameData f = f := by
  apply BitVec.eq_of_getLsbD_eq
  intro i hi
  have h : (frameAddr f ++ frameData f).getLsbD i
      = if i < 8 then (frameData f).getLsbD i else (frameAddr f).getLsbD (i - 8) := BitVec.getLsbD_append
  rw [h]
  by_cases h8 : i < 8
  · simp [frameData, h8]
  · simp [frameAddr, h8, show i - 8 < 8 by omega, show 8 + (i - 8) = i by omega]

/-- The 18 registers in the order of their ids (rule R40). -/
def allRegs : List RegName :=
  [.input .buttons, .input .turntableP1, .input .turntableP2, .input .volumePair12, .input .volumePair34,
   .input .volume5, .output .buttonLamps, .output (.segment 0), .output (.segment 1), .output (.segment 2),
   .output (.segment 3), .output (.segment 4), .output (.segment 5), .output (.segment 6), .output (.segment 7),
   .output (.segment 8), .output .spotlights, .output .neon]

theorem mem_allRegs (r : RegName) : r ∈ allRegs := by
  rcases r with r | r
  · cases r <;> decide
  · cases r with
    | segment i => revert i; decide
    | buttonLamps => decide
    | spotlights => decide
    | neon => decide

/-- What holds of the 18 listed registers holds of every register. -/
theorem forall_reg {P : RegName → Prop} (h : ∀ r ∈ allRegs, P r) (r : RegName) : P r := h r (mem_allRegs r)

theorem encode_frameOf (r : RegName) (w : Byte) : encode (frameOf r w) = some (tableAddr r ++ w) := by
  revert r
  refine forall_reg ?_
  simp [allRegs, frameOf, encode, tableAddr, regId]

theorem frameOf_wellFormed (r : RegName) (w : Byte) : (frameOf r w).wellFormed = true := by
  revert r
  refine forall_reg ?_
  simp [allRegs, frameOf, Instr.wellFormed]

/-- Decoding looks at the address byte alone to find the register. -/
theorem decodeFrame_append (a w : Byte) :
    decodeFrame (a ++ w) = (regAt a).elim (.frameUnassigned a w) (fun r => frameOf r w) := by
  simp only [decodeFrame, frameAddr_append, frameData_append]
  cases regAt a <;> rfl

end Sys2Proof
end

