-- ==== Sys2Proof/Laws/State.lean ====
section
/-! SUPPORT. One lemma per field per update of the state, so that no later proof unfolds a record update. -/

namespace Sys2Proof.Machine

/-! ### `State.emit` -/

@[simp] theorem State.emit_cfg (s : State) (e : Event) : (s.emit e).cfg = s.cfg := rfl
@[simp] theorem State.emit_clk (s : State) (e : Event) : (s.emit e).clk = s.clk := rfl
@[simp] theorem State.emit_enN (s : State) (e : Event) : (s.emit e).enN = s.enN := rfl
@[simp] theorem State.emit_dout (s : State) (e : Event) : (s.emit e).dout = s.dout := rfl
@[simp] theorem State.emit_phase (s : State) (e : Event) : (s.emit e).phase = s.phase := rfl
@[simp] theorem State.emit_bitn (s : State) (e : Event) : (s.emit e).bitn = s.bitn := rfl
@[simp] theorem State.emit_txAddr (s : State) (e : Event) : (s.emit e).txAddr = s.txAddr := rfl
@[simp] theorem State.emit_txData (s : State) (e : Event) : (s.emit e).txData = s.txData := rfl
@[simp] theorem State.emit_rx (s : State) (e : Event) : (s.emit e).rx = s.rx := rfl
@[simp] theorem State.emit_ack (s : State) (e : Event) : (s.emit e).ack = s.ack := rfl
@[simp] theorem State.emit_lastRx (s : State) (e : Event) : (s.emit e).lastRx = s.lastRx := rfl
@[simp] theorem State.emit_lastAck (s : State) (e : Event) : (s.emit e).lastAck = s.lastAck := rfl
@[simp] theorem State.emit_snapButtons (s : State) (e : Event) : (s.emit e).snapButtons = s.snapButtons := rfl
@[simp] theorem State.emit_snapTt1 (s : State) (e : Event) : (s.emit e).snapTt1 = s.snapTt1 := rfl
@[simp] theorem State.emit_snapTt2 (s : State) (e : Event) : (s.emit e).snapTt2 = s.snapTt2 := rfl
@[simp] theorem State.emit_snapVol12 (s : State) (e : Event) : (s.emit e).snapVol12 = s.snapVol12 := rfl
@[simp] theorem State.emit_snapVol34 (s : State) (e : Event) : (s.emit e).snapVol34 = s.snapVol34 := rfl
@[simp] theorem State.emit_snapVol5 (s : State) (e : Event) : (s.emit e).snapVol5 = s.snapVol5 := rfl
@[simp] theorem State.emit_cursor (s : State) (e : Event) : (s.emit e).cursor = s.cursor := rfl
@[simp] theorem State.emit_lastScroll (s : State) (e : Event) : (s.emit e).lastScroll = s.lastScroll := rfl
@[simp] theorem State.emit_animIdx (s : State) (e : Event) : (s.emit e).animIdx = s.animIdx := rfl
@[simp] theorem State.emit_lastAnim (s : State) (e : Event) : (s.emit e).lastAnim = s.lastAnim := rfl
@[simp] theorem State.emit_seq (s : State) (e : Event) : (s.emit e).seq = s.seq := rfl
@[simp] theorem State.emit_mode (s : State) (e : Event) : (s.emit e).mode = s.mode := rfl
@[simp] theorem State.emit_fault (s : State) (e : Event) : (s.emit e).fault = s.fault := rfl
@[simp] theorem State.emit_events (s : State) (e : Event) : (s.emit e).events = e :: s.events := rfl
@[simp] theorem State.emit_dataIn (s : State) (e : Event) : (s.emit e).dataIn = s.dataIn := rfl
@[simp] theorem State.emit_time (s : State) (e : Event) : (s.emit e).time = s.time := rfl
@[simp] theorem State.emit_requests (s : State) (e : Event) : (s.emit e).requests = s.requests := rfl
@[simp] theorem State.emit_reply (s : State) (e : Event) : (s.emit e).reply = s.reply := rfl

/-! ### `State.emitAll` -/

@[simp] theorem State.emitAll_cfg (s : State) (es : List Event) : (s.emitAll es).cfg = s.cfg := rfl
@[simp] theorem State.emitAll_clk (s : State) (es : List Event) : (s.emitAll es).clk = s.clk := rfl
@[simp] theorem State.emitAll_enN (s : State) (es : List Event) : (s.emitAll es).enN = s.enN := rfl
@[simp] theorem State.emitAll_dout (s : State) (es : List Event) : (s.emitAll es).dout = s.dout := rfl
@[simp] theorem State.emitAll_phase (s : State) (es : List Event) : (s.emitAll es).phase = s.phase := rfl
@[simp] theorem State.emitAll_bitn (s : State) (es : List Event) : (s.emitAll es).bitn = s.bitn := rfl
@[simp] theorem State.emitAll_txAddr (s : State) (es : List Event) : (s.emitAll es).txAddr = s.txAddr := rfl
@[simp] theorem State.emitAll_txData (s : State) (es : List Event) : (s.emitAll es).txData = s.txData := rfl
@[simp] theorem State.emitAll_rx (s : State) (es : List Event) : (s.emitAll es).rx = s.rx := rfl
@[simp] theorem State.emitAll_ack (s : State) (es : List Event) : (s.emitAll es).ack = s.ack := rfl
@[simp] theorem State.emitAll_lastRx (s : State) (es : List Event) : (s.emitAll es).lastRx = s.lastRx := rfl
@[simp] theorem State.emitAll_lastAck (s : State) (es : List Event) : (s.emitAll es).lastAck = s.lastAck := rfl
@[simp] theorem State.emitAll_snapButtons (s : State) (es : List Event) : (s.emitAll es).snapButtons = s.snapButtons := rfl
@[simp] theorem State.emitAll_snapTt1 (s : State) (es : List Event) : (s.emitAll es).snapTt1 = s.snapTt1 := rfl
@[simp] theorem State.emitAll_snapTt2 (s : State) (es : List Event) : (s.emitAll es).snapTt2 = s.snapTt2 := rfl
@[simp] theorem State.emitAll_snapVol12 (s : State) (es : List Event) : (s.emitAll es).snapVol12 = s.snapVol12 := rfl
@[simp] theorem State.emitAll_snapVol34 (s : State) (es : List Event) : (s.emitAll es).snapVol34 = s.snapVol34 := rfl
@[simp] theorem State.emitAll_snapVol5 (s : State) (es : List Event) : (s.emitAll es).snapVol5 = s.snapVol5 := rfl
@[simp] theorem State.emitAll_cursor (s : State) (es : List Event) : (s.emitAll es).cursor = s.cursor := rfl
@[simp] theorem State.emitAll_lastScroll (s : State) (es : List Event) : (s.emitAll es).lastScroll = s.lastScroll := rfl
@[simp] theorem State.emitAll_animIdx (s : State) (es : List Event) : (s.emitAll es).animIdx = s.animIdx := rfl
@[simp] theorem State.emitAll_lastAnim (s : State) (es : List Event) : (s.emitAll es).lastAnim = s.lastAnim := rfl
@[simp] theorem State.emitAll_seq (s : State) (es : List Event) : (s.emitAll es).seq = s.seq := rfl
@[simp] theorem State.emitAll_mode (s : State) (es : List Event) : (s.emitAll es).mode = s.mode := rfl
@[simp] theorem State.emitAll_fault (s : State) (es : List Event) : (s.emitAll es).fault = s.fault := rfl
@[simp] theorem State.emitAll_events (s : State) (es : List Event) : (s.emitAll es).events = es.reverse ++ s.events := rfl
@[simp] theorem State.emitAll_dataIn (s : State) (es : List Event) : (s.emitAll es).dataIn = s.dataIn := rfl
@[simp] theorem State.emitAll_time (s : State) (es : List Event) : (s.emitAll es).time = s.time := rfl
@[simp] theorem State.emitAll_requests (s : State) (es : List Event) : (s.emitAll es).requests = s.requests := rfl
@[simp] theorem State.emitAll_reply (s : State) (es : List Event) : (s.emitAll es).reply = s.reply := rfl

/-! ### `State.answer` -/

@[simp] theorem State.answer_cfg (s : State) (r : Reply) : (s.answer r).cfg = s.cfg := rfl
@[simp] theorem State.answer_clk (s : State) (r : Reply) : (s.answer r).clk = s.clk := rfl
@[simp] theorem State.answer_enN (s : State) (r : Reply) : (s.answer r).enN = s.enN := rfl
@[simp] theorem State.answer_dout (s : State) (r : Reply) : (s.answer r).dout = s.dout := rfl
@[simp] theorem State.answer_phase (s : State) (r : Reply) : (s.answer r).phase = s.phase := rfl
@[simp] theorem State.answer_bitn (s : State) (r : Reply) : (s.answer r).bitn = s.bitn := rfl
@[simp] theorem State.answer_txAddr (s : State) (r : Reply) : (s.answer r).txAddr = s.txAddr := rfl
@[simp] theorem State.answer_txData (s : State) (r : Reply) : (s.answer r).txData = s.txData := rfl
@[simp] theorem State.answer_rx (s : State) (r : Reply) : (s.answer r).rx = s.rx := rfl
@[simp] theorem State.answer_ack (s : State) (r : Reply) : (s.answer r).ack = s.ack := rfl
@[simp] theorem State.answer_lastRx (s : State) (r : Reply) : (s.answer r).lastRx = s.lastRx := rfl
@[simp] theorem State.answer_lastAck (s : State) (r : Reply) : (s.answer r).lastAck = s.lastAck := rfl
@[simp] theorem State.answer_snapButtons (s : State) (r : Reply) : (s.answer r).snapButtons = s.snapButtons := rfl
@[simp] theorem State.answer_snapTt1 (s : State) (r : Reply) : (s.answer r).snapTt1 = s.snapTt1 := rfl
@[simp] theorem State.answer_snapTt2 (s : State) (r : Reply) : (s.answer r).snapTt2 = s.snapTt2 := rfl
@[simp] theorem State.answer_snapVol12 (s : State) (r : Reply) : (s.answer r).snapVol12 = s.snapVol12 := rfl
@[simp] theorem State.answer_snapVol34 (s : State) (r : Reply) : (s.answer r).snapVol34 = s.snapVol34 := rfl
@[simp] theorem State.answer_snapVol5 (s : State) (r : Reply) : (s.answer r).snapVol5 = s.snapVol5 := rfl
@[simp] theorem State.answer_cursor (s : State) (r : Reply) : (s.answer r).cursor = s.cursor := rfl
@[simp] theorem State.answer_lastScroll (s : State) (r : Reply) : (s.answer r).lastScroll = s.lastScroll := rfl
@[simp] theorem State.answer_animIdx (s : State) (r : Reply) : (s.answer r).animIdx = s.animIdx := rfl
@[simp] theorem State.answer_lastAnim (s : State) (r : Reply) : (s.answer r).lastAnim = s.lastAnim := rfl
@[simp] theorem State.answer_seq (s : State) (r : Reply) : (s.answer r).seq = s.seq := rfl
@[simp] theorem State.answer_mode (s : State) (r : Reply) : (s.answer r).mode = s.mode := rfl
@[simp] theorem State.answer_fault (s : State) (r : Reply) : (s.answer r).fault = s.fault := rfl
@[simp] theorem State.answer_events (s : State) (r : Reply) : (s.answer r).events = s.events := rfl
@[simp] theorem State.answer_dataIn (s : State) (r : Reply) : (s.answer r).dataIn = s.dataIn := rfl
@[simp] theorem State.answer_time (s : State) (r : Reply) : (s.answer r).time = s.time := rfl
@[simp] theorem State.answer_requests (s : State) (r : Reply) : (s.answer r).requests = s.requests := rfl
@[simp] theorem State.answer_reply (s : State) (r : Reply) : (s.answer r).reply = r := rfl

/-! ### `setClock` -/

@[simp] theorem setClock_cfg (s : State) (v : Bool) : (setClock v s).cfg = s.cfg := rfl
@[simp] theorem setClock_clk (s : State) (v : Bool) : (setClock v s).clk = .driven v := rfl
@[simp] theorem setClock_enN (s : State) (v : Bool) : (setClock v s).enN = s.enN := rfl
@[simp] theorem setClock_dout (s : State) (v : Bool) : (setClock v s).dout = s.dout := rfl
@[simp] theorem setClock_phase (s : State) (v : Bool) : (setClock v s).phase = s.phase := rfl
@[simp] theorem setClock_bitn (s : State) (v : Bool) : (setClock v s).bitn = s.bitn := rfl
@[simp] theorem setClock_txAddr (s : State) (v : Bool) : (setClock v s).txAddr = s.txAddr := rfl
@[simp] theorem setClock_txData (s : State) (v : Bool) : (setClock v s).txData = s.txData := rfl
@[simp] theorem setClock_rx (s : State) (v : Bool) : (setClock v s).rx = s.rx := rfl
@[simp] theorem setClock_ack (s : State) (v : Bool) : (setClock v s).ack = s.ack := rfl
@[simp] theorem setClock_lastRx (s : State) (v : Bool) : (setClock v s).lastRx = s.lastRx := rfl
@[simp] theorem setClock_lastAck (s : State) (v : Bool) : (setClock v s).lastAck = s.lastAck := rfl
@[simp] theorem setClock_snapButtons (s : State) (v : Bool) : (setClock v s).snapButtons = s.snapButtons := rfl
@[simp] theorem setClock_snapTt1 (s : State) (v : Bool) : (setClock v s).snapTt1 = s.snapTt1 := rfl
@[simp] theorem setClock_snapTt2 (s : State) (v : Bool) : (setClock v s).snapTt2 = s.snapTt2 := rfl
@[simp] theorem setClock_snapVol12 (s : State) (v : Bool) : (setClock v s).snapVol12 = s.snapVol12 := rfl
@[simp] theorem setClock_snapVol34 (s : State) (v : Bool) : (setClock v s).snapVol34 = s.snapVol34 := rfl
@[simp] theorem setClock_snapVol5 (s : State) (v : Bool) : (setClock v s).snapVol5 = s.snapVol5 := rfl
@[simp] theorem setClock_cursor (s : State) (v : Bool) : (setClock v s).cursor = s.cursor := rfl
@[simp] theorem setClock_lastScroll (s : State) (v : Bool) : (setClock v s).lastScroll = s.lastScroll := rfl
@[simp] theorem setClock_animIdx (s : State) (v : Bool) : (setClock v s).animIdx = s.animIdx := rfl
@[simp] theorem setClock_lastAnim (s : State) (v : Bool) : (setClock v s).lastAnim = s.lastAnim := rfl
@[simp] theorem setClock_seq (s : State) (v : Bool) : (setClock v s).seq = s.seq := rfl
@[simp] theorem setClock_mode (s : State) (v : Bool) : (setClock v s).mode = s.mode := rfl
@[simp] theorem setClock_fault (s : State) (v : Bool) : (setClock v s).fault = s.fault := rfl
@[simp] theorem setClock_events (s : State) (v : Bool) : (setClock v s).events = .clk v :: s.events := rfl
@[simp] theorem setClock_dataIn (s : State) (v : Bool) : (setClock v s).dataIn = s.dataIn := rfl
@[simp] theorem setClock_time (s : State) (v : Bool) : (setClock v s).time = s.time := rfl
@[simp] theorem setClock_requests (s : State) (v : Bool) : (setClock v s).requests = s.requests := rfl
@[simp] theorem setClock_reply (s : State) (v : Bool) : (setClock v s).reply = s.reply := rfl

/-! ### `setData` -/

@[simp] theorem setData_cfg (s : State) (v : Bool) : (setData v s).cfg = s.cfg := rfl
@[simp] theorem setData_clk (s : State) (v : Bool) : (setData v s).clk = s.clk := rfl
@[simp] theorem setData_enN (s : State) (v : Bool) : (setData v s).enN = s.enN := rfl
@[simp] theorem setData_dout (s : State) (v : Bool) : (setData v s).dout = .driven v := rfl
@[simp] theorem setData_phase (s : State) (v : Bool) : (setData v s).phase = s.phase := rfl
@[simp] theorem setData_bitn (s : State) (v : Bool) : (setData v s).bitn = s.bitn := rfl
@[simp] theorem setData_txAddr (s : State) (v : Bool) : (setData v s).txAddr = s.txAddr := rfl
@[simp] theorem setData_txData (s : State) (v : Bool) : (setData v s).txData = s.txData := rfl
@[simp] theorem setData_rx (s : State) (v : Bool) : (setData v s).rx = s.rx := rfl
@[simp] theorem setData_ack (s : State) (v : Bool) : (setData v s).ack = s.ack := rfl
@[simp] theorem setData_lastRx (s : State) (v : Bool) : (setData v s).lastRx = s.lastRx := rfl
@[simp] theorem setData_lastAck (s : State) (v : Bool) : (setData v s).lastAck = s.lastAck := rfl
@[simp] theorem setData_snapButtons (s : State) (v : Bool) : (setData v s).snapButtons = s.snapButtons := rfl
@[simp] theorem setData_snapTt1 (s : State) (v : Bool) : (setData v s).snapTt1 = s.snapTt1 := rfl
@[simp] theorem setData_snapTt2 (s : State) (v : Bool) : (setData v s).snapTt2 = s.snapTt2 := rfl
@[simp] theorem setData_snapVol12 (s : State) (v : Bool) : (setData v s).snapVol12 = s.snapVol12 := rfl
@[simp] theorem setData_snapVol34 (s : State) (v : Bool) : (setData v s).snapVol34 = s.snapVol34 := rfl
@[simp] theorem setData_snapVol5 (s : State) (v : Bool) : (setData v s).snapVol5 = s.snapVol5 := rfl
@[simp] theorem setData_cursor (s : State) (v : Bool) : (setData v s).cursor = s.cursor := rfl
@[simp] theorem setData_lastScroll (s : State) (v : Bool) : (setData v s).lastScroll = s.lastScroll := rfl
@[simp] theorem setData_animIdx (s : State) (v : Bool) : (setData v s).animIdx = s.animIdx := rfl
@[simp] theorem setData_lastAnim (s : State) (v : Bool) : (setData v s).lastAnim = s.lastAnim := rfl
@[simp] theorem setData_seq (s : State) (v : Bool) : (setData v s).seq = s.seq := rfl
@[simp] theorem setData_mode (s : State) (v : Bool) : (setData v s).mode = s.mode := rfl
@[simp] theorem setData_fault (s : State) (v : Bool) : (setData v s).fault = s.fault := rfl
@[simp] theorem setData_events (s : State) (v : Bool) : (setData v s).events = .dout v :: s.events := rfl
@[simp] theorem setData_dataIn (s : State) (v : Bool) : (setData v s).dataIn = s.dataIn := rfl
@[simp] theorem setData_time (s : State) (v : Bool) : (setData v s).time = s.time := rfl
@[simp] theorem setData_requests (s : State) (v : Bool) : (setData v s).requests = s.requests := rfl
@[simp] theorem setData_reply (s : State) (v : Bool) : (setData v s).reply = s.reply := rfl

/-! ### `setEnable` -/

@[simp] theorem setEnable_cfg (s : State) (v : Bool) : (setEnable v s).cfg = s.cfg := rfl
@[simp] theorem setEnable_clk (s : State) (v : Bool) : (setEnable v s).clk = s.clk := rfl
@[simp] theorem setEnable_enN (s : State) (v : Bool) : (setEnable v s).enN = .driven v := rfl
@[simp] theorem setEnable_dout (s : State) (v : Bool) : (setEnable v s).dout = s.dout := rfl
@[simp] theorem setEnable_phase (s : State) (v : Bool) : (setEnable v s).phase = s.phase := rfl
@[simp] theorem setEnable_bitn (s : State) (v : Bool) : (setEnable v s).bitn = s.bitn := rfl
@[simp] theorem setEnable_txAddr (s : State) (v : Bool) : (setEnable v s).txAddr = s.txAddr := rfl
@[simp] theorem setEnable_txData (s : State) (v : Bool) : (setEnable v s).txData = s.txData := rfl
@[simp] theorem setEnable_rx (s : State) (v : Bool) : (setEnable v s).rx = s.rx := rfl
@[simp] theorem setEnable_ack (s : State) (v : Bool) : (setEnable v s).ack = s.ack := rfl
@[simp] theorem setEnable_lastRx (s : State) (v : Bool) : (setEnable v s).lastRx = s.lastRx := rfl
@[simp] theorem setEnable_lastAck (s : State) (v : Bool) : (setEnable v s).lastAck = s.lastAck := rfl
@[simp] theorem setEnable_snapButtons (s : State) (v : Bool) : (setEnable v s).snapButtons = s.snapButtons := rfl
@[simp] theorem setEnable_snapTt1 (s : State) (v : Bool) : (setEnable v s).snapTt1 = s.snapTt1 := rfl
@[simp] theorem setEnable_snapTt2 (s : State) (v : Bool) : (setEnable v s).snapTt2 = s.snapTt2 := rfl
@[simp] theorem setEnable_snapVol12 (s : State) (v : Bool) : (setEnable v s).snapVol12 = s.snapVol12 := rfl
@[simp] theorem setEnable_snapVol34 (s : State) (v : Bool) : (setEnable v s).snapVol34 = s.snapVol34 := rfl
@[simp] theorem setEnable_snapVol5 (s : State) (v : Bool) : (setEnable v s).snapVol5 = s.snapVol5 := rfl
@[simp] theorem setEnable_cursor (s : State) (v : Bool) : (setEnable v s).cursor = s.cursor := rfl
@[simp] theorem setEnable_lastScroll (s : State) (v : Bool) : (setEnable v s).lastScroll = s.lastScroll := rfl
@[simp] theorem setEnable_animIdx (s : State) (v : Bool) : (setEnable v s).animIdx = s.animIdx := rfl
@[simp] theorem setEnable_lastAnim (s : State) (v : Bool) : (setEnable v s).lastAnim = s.lastAnim := rfl
@[simp] theorem setEnable_seq (s : State) (v : Bool) : (setEnable v s).seq = s.seq := rfl
@[simp] theorem setEnable_mode (s : State) (v : Bool) : (setEnable v s).mode = s.mode := rfl
@[simp] theorem setEnable_fault (s : State) (v : Bool) : (setEnable v s).fault = s.fault := rfl
@[simp] theorem setEnable_events (s : State) (v : Bool) : (setEnable v s).events = .en v :: s.events := rfl
@[simp] theorem setEnable_dataIn (s : State) (v : Bool) : (setEnable v s).dataIn = s.dataIn := rfl
@[simp] theorem setEnable_time (s : State) (v : Bool) : (setEnable v s).time = s.time := rfl
@[simp] theorem setEnable_requests (s : State) (v : Bool) : (setEnable v s).requests = s.requests := rfl
@[simp] theorem setEnable_reply (s : State) (v : Bool) : (setEnable v s).reply = s.reply := rfl

/-! ### `delay` -/

@[simp] theorem delay_cfg (s : State) : (delay s).cfg = s.cfg := rfl
@[simp] theorem delay_clk (s : State) : (delay s).clk = s.clk := rfl
@[simp] theorem delay_enN (s : State) : (delay s).enN = s.enN := rfl
@[simp] theorem delay_dout (s : State) : (delay s).dout = s.dout := rfl
@[simp] theorem delay_phase (s : State) : (delay s).phase = s.phase := rfl
@[simp] theorem delay_bitn (s : State) : (delay s).bitn = s.bitn := rfl
@[simp] theorem delay_txAddr (s : State) : (delay s).txAddr = s.txAddr := rfl
@[simp] theorem delay_txData (s : State) : (delay s).txData = s.txData := rfl
@[simp] theorem delay_rx (s : State) : (delay s).rx = s.rx := rfl
@[simp] theorem delay_ack (s : State) : (delay s).ack = s.ack := rfl
@[simp] theorem delay_lastRx (s : State) : (delay s).lastRx = s.lastRx := rfl
@[simp] theorem delay_lastAck (s : State) : (delay s).lastAck = s.lastAck := rfl
@[simp] theorem delay_snapButtons (s : State) : (delay s).snapButtons = s.snapButtons := rfl
@[simp] theorem delay_snapTt1 (s : State) : (delay s).snapTt1 = s.snapTt1 := rfl
@[simp] theorem delay_snapTt2 (s : State) : (delay s).snapTt2 = s.snapTt2 := rfl
@[simp] theorem delay_snapVol12 (s : State) : (delay s).snapVol12 = s.snapVol12 := rfl
@[simp] theorem delay_snapVol34 (s : State) : (delay s).snapVol34 = s.snapVol34 := rfl
@[simp] theorem delay_snapVol5 (s : State) : (delay s).snapVol5 = s.snapVol5 := rfl
@[simp] theorem delay_cursor (s : State) : (delay s).cursor = s.cursor := rfl
@[simp] theorem delay_lastScroll (s : State) : (delay s).lastScroll = s.lastScroll := rfl
@[simp] theorem delay_animIdx (s : State) : (delay s).animIdx = s.animIdx := rfl
@[simp] theorem delay_lastAnim (s : State) : (delay s).lastAnim = s.lastAnim := rfl
@[simp] theorem delay_seq (s : State) : (delay s).seq = s.seq := rfl
@[simp] theorem delay_mode (s : State) : (delay s).mode = s.mode := rfl
@[simp] theorem delay_fault (s : State) : (delay s).fault = s.fault := rfl
@[simp] theorem delay_events (s : State) : (delay s).events = .wait s.cfg.bitDelay :: s.events := rfl
@[simp] theorem delay_dataIn (s : State) : (delay s).dataIn = s.dataIn := rfl
@[simp] theorem delay_time (s : State) : (delay s).time = s.time := rfl
@[simp] theorem delay_requests (s : State) : (delay s).requests = s.requests := rfl
@[simp] theorem delay_reply (s : State) : (delay s).reply = s.reply := rfl

/-! ### `resetCore` -/

@[simp] theorem resetCore_cfg (s : State) (c : Cfg) (t0 : Nat) : (resetCore c t0 s).cfg = c := rfl
@[simp] theorem resetCore_clk (s : State) (c : Cfg) (t0 : Nat) : (resetCore c t0 s).clk = .driven true := rfl
@[simp] theorem resetCore_enN (s : State) (c : Cfg) (t0 : Nat) : (resetCore c t0 s).enN = .driven true := rfl
@[simp] theorem resetCore_dout (s : State) (c : Cfg) (t0 : Nat) : (resetCore c t0 s).dout = .driven false := rfl
@[simp] theorem resetCore_phase (s : State) (c : Cfg) (t0 : Nat) : (resetCore c t0 s).phase = .idle := rfl
@[simp] theorem resetCore_bitn (s : State) (c : Cfg) (t0 : Nat) : (resetCore c t0 s).bitn = s.bitn := rfl
@[simp] theorem resetCore_txAddr (s : State) (c : Cfg) (t0 : Nat) : (resetCore c t0 s).txAddr = s.txAddr := rfl
@[simp] theorem resetCore_txData (s : State) (c : Cfg) (t0 : Nat) : (resetCore c t0 s).txData = s.txData := rfl
@[simp] theorem resetCore_rx (s : State) (c : Cfg) (t0 : Nat) : (resetCore c t0 s).rx = s.rx := rfl
@[simp] theorem resetCore_ack (s : State) (c : Cfg) (t0 : Nat) : (resetCore c t0 s).ack = s.ack := rfl
@[simp] theorem resetCore_lastRx (s : State) (c : Cfg) (t0 : Nat) : (resetCore c t0 s).lastRx = none := rfl
@[simp] theorem resetCore_lastAck (s : State) (c : Cfg) (t0 : Nat) : (resetCore c t0 s).lastAck = none := rfl
@[simp] theorem resetCore_snapButtons (s : State) (c : Cfg) (t0 : Nat) : (resetCore c t0 s).snapButtons = none := rfl
@[simp] theorem resetCore_snapTt1 (s : State) (c : Cfg) (t0 : Nat) : (resetCore c t0 s).snapTt1 = none := rfl
@[simp] theorem resetCore_snapTt2 (s : State) (c : Cfg) (t0 : Nat) : (resetCore c t0 s).snapTt2 = none := rfl
@[simp] theorem resetCore_snapVol12 (s : State) (c : Cfg) (t0 : Nat) : (resetCore c t0 s).snapVol12 = none := rfl
@[simp] theorem resetCore_snapVol34 (s : State) (c : Cfg) (t0 : Nat) : (resetCore c t0 s).snapVol34 = none := rfl
@[simp] theorem resetCore_snapVol5 (s : State) (c : Cfg) (t0 : Nat) : (resetCore c t0 s).snapVol5 = none := rfl
@[simp] theorem resetCore_cursor (s : State) (c : Cfg) (t0 : Nat) : (resetCore c t0 s).cursor = 0 := rfl
@[simp] theorem resetCore_lastScroll (s : State) (c : Cfg) (t0 : Nat) : (resetCore c t0 s).lastScroll = t0 := rfl
@[simp] theorem resetCore_animIdx (s : State) (c : Cfg) (t0 : Nat) : (resetCore c t0 s).animIdx = 0 := rfl
@[simp] theorem resetCore_lastAnim (s : State) (c : Cfg) (t0 : Nat) : (resetCore c t0 s).lastAnim = t0 := rfl
@[simp] theorem resetCore_seq (s : State) (c : Cfg) (t0 : Nat) : (resetCore c t0 s).seq = .idle := rfl
@[simp] theorem resetCore_mode (s : State) (c : Cfg) (t0 : Nat) : (resetCore c t0 s).mode = s.mode := rfl
@[simp] theorem resetCore_fault (s : State) (c : Cfg) (t0 : Nat) : (resetCore c t0 s).fault = none := rfl
@[simp] theorem resetCore_events (s : State) (c : Cfg) (t0 : Nat) : (resetCore c t0 s).events = .dout false :: .clk true :: .en true :: s.events := rfl
@[simp] theorem resetCore_dataIn (s : State) (c : Cfg) (t0 : Nat) : (resetCore c t0 s).dataIn = s.dataIn := rfl
@[simp] theorem resetCore_time (s : State) (c : Cfg) (t0 : Nat) : (resetCore c t0 s).time = s.time := rfl
@[simp] theorem resetCore_requests (s : State) (c : Cfg) (t0 : Nat) : (resetCore c t0 s).requests = s.requests := rfl
@[simp] theorem resetCore_reply (s : State) (c : Cfg) (t0 : Nat) : (resetCore c t0 s).reply = s.reply := rfl

/-! ### `State.setSnapshot` -/

@[simp] theorem State.setSnapshot_cfg (s : State) (r : InputReg) (b : Byte) : (s.setSnapshot r b).cfg = s.cfg := by cases r <;> rfl
@[simp] theorem State.setSnapshot_clk (s : State) (r : InputReg) (b : Byte) : (s.setSnapshot r b).clk = s.clk := by cases r <;> rfl
@[simp] theorem State.setSnapshot_enN (s : State) (r : InputReg) (b : Byte) : (s.setSnapshot r b).enN = s.enN := by cases r <;> rfl
@[simp] theorem State.setSnapshot_dout (s : State) (r : InputReg) (b : Byte) : (s.setSnapshot r b).dout = s.dout := by cases r <;> rfl
@[simp] theorem State.setSnapshot_phase (s : State) (r : InputReg) (b : Byte) : (s.setSnapshot r b).phase = s.phase := by cases r <;> rfl
@[simp] theorem State.setSnapshot_bitn (s : State) (r : InputReg) (b : Byte) : (s.setSnapshot r b).bitn = s.bitn := by cases r <;> rfl
@[simp] theorem State.setSnapshot_txAddr (s : State) (r : InputReg) (b : Byte) : (s.setSnapshot r b).txAddr = s.txAddr := by cases r <;> rfl
@[simp] theorem State.setSnapshot_txData (s : State) (r : InputReg) (b : Byte) : (s.setSnapshot r b).txData = s.txData := by cases r <;> rfl
@[simp] theorem State.setSnapshot_rx (s : State) (r : InputReg) (b : Byte) : (s.setSnapshot r b).rx = s.rx := by cases r <;> rfl
@[simp] theorem State.setSnapshot_ack (s : State) (r : InputReg) (b : Byte) : (s.setSnapshot r b).ack = s.ack := by cases r <;> rfl
@[simp] theorem State.setSnapshot_lastRx (s : State) (r : InputReg) (b : Byte) : (s.setSnapshot r b).lastRx = s.lastRx := by cases r <;> rfl
@[simp] theorem State.setSnapshot_lastAck (s : State) (r : InputReg) (b : Byte) : (s.setSnapshot r b).lastAck = s.lastAck := by cases r <;> rfl
@[simp] theorem State.setSnapshot_cursor (s : State) (r : InputReg) (b : Byte) : (s.setSnapshot r b).cursor = s.cursor := by cases r <;> rfl
@[simp] theorem State.setSnapshot_lastScroll (s : State) (r : InputReg) (b : Byte) : (s.setSnapshot r b).lastScroll = s.lastScroll := by cases r <;> rfl
@[simp] theorem State.setSnapshot_animIdx (s : State) (r : InputReg) (b : Byte) : (s.setSnapshot r b).animIdx = s.animIdx := by cases r <;> rfl
@[simp] theorem State.setSnapshot_lastAnim (s : State) (r : InputReg) (b : Byte) : (s.setSnapshot r b).lastAnim = s.lastAnim := by cases r <;> rfl
@[simp] theorem State.setSnapshot_seq (s : State) (r : InputReg) (b : Byte) : (s.setSnapshot r b).seq = s.seq := by cases r <;> rfl
@[simp] theorem State.setSnapshot_mode (s : State) (r : InputReg) (b : Byte) : (s.setSnapshot r b).mode = s.mode := by cases r <;> rfl
@[simp] theorem State.setSnapshot_fault (s : State) (r : InputReg) (b : Byte) : (s.setSnapshot r b).fault = s.fault := by cases r <;> rfl
@[simp] theorem State.setSnapshot_events (s : State) (r : InputReg) (b : Byte) : (s.setSnapshot r b).events = s.events := by cases r <;> rfl
@[simp] theorem State.setSnapshot_dataIn (s : State) (r : InputReg) (b : Byte) : (s.setSnapshot r b).dataIn = s.dataIn := by cases r <;> rfl
@[simp] theorem State.setSnapshot_time (s : State) (r : InputReg) (b : Byte) : (s.setSnapshot r b).time = s.time := by cases r <;> rfl
@[simp] theorem State.setSnapshot_requests (s : State) (r : InputReg) (b : Byte) : (s.setSnapshot r b).requests = s.requests := by cases r <;> rfl
@[simp] theorem State.setSnapshot_reply (s : State) (r : InputReg) (b : Byte) : (s.setSnapshot r b).reply = s.reply := by cases r <;> rfl

@[simp] theorem State.snapshot_setSnapshot_self (s : State) (r : InputReg) (b : Byte) :
    (s.setSnapshot r b).snapshot r = some b := by cases r <;> rfl

theorem State.snapshot_setSnapshot_other (s : State) {r r' : InputReg} (b : Byte) (h : r' ≠ r) :
    (s.setSnapshot r b).snapshot r' = s.snapshot r' := by cases r <;> cases r' <;> simp_all [State.setSnapshot, State.snapshot]

/-! ### `scrollStep` -/

@[simp] theorem scrollStep_cfg (s : State) (t : Nat) : (scrollStep t s).cfg = s.cfg := by unfold scrollStep; split <;> rfl
@[simp] theorem scrollStep_clk (s : State) (t : Nat) : (scrollStep t s).clk = s.clk := by unfold scrollStep; split <;> rfl
@[simp] theorem scrollStep_enN (s : State) (t : Nat) : (scrollStep t s).enN = s.enN := by unfold scrollStep; split <;> rfl
@[simp] theorem scrollStep_dout (s : State) (t : Nat) : (scrollStep t s).dout = s.dout := by unfold scrollStep; split <;> rfl
@[simp] theorem scrollStep_phase (s : State) (t : Nat) : (scrollStep t s).phase = s.phase := by unfold scrollStep; split <;> rfl
@[simp] theorem scrollStep_bitn (s : State) (t : Nat) : (scrollStep t s).bitn = s.bitn := by unfold scrollStep; split <;> rfl
@[simp] theorem scrollStep_txAddr (s : State) (t : Nat) : (scrollStep t s).txAddr = s.txAddr := by unfold scrollStep; split <;> rfl
@[simp] theorem scrollStep_txData (s : State) (t : Nat) : (scrollStep t s).txData = s.txData := by unfold scrollStep; split <;> rfl
@[simp] theorem scrollStep_rx (s : State) (t : Nat) : (scrollStep t s).rx = s.rx := by unfold scrollStep; split <;> rfl
@[simp] theorem scrollStep_ack (s : State) (t : Nat) : (scrollStep t s).ack = s.ack := by unfold scrollStep; split <;> rfl
@[simp] theorem scrollStep_lastRx (s : State) (t : Nat) : (scrollStep t s).lastRx = s.lastRx := by unfold scrollStep; split <;> rfl
@[simp] theorem scrollStep_lastAck (s : State) (t : Nat) : (scrollStep t s).lastAck = s.lastAck := by unfold scrollStep; split <;> rfl
@[simp] theorem scrollStep_snapButtons (s : State) (t : Nat) : (scrollStep t s).snapButtons = s.snapButtons := by unfold scrollStep; split <;> rfl
@[simp] theorem scrollStep_snapTt1 (s : State) (t : Nat) : (scrollStep t s).snapTt1 = s.snapTt1 := by unfold scrollStep; split <;> rfl
@[simp] theorem scrollStep_snapTt2 (s : State) (t : Nat) : (scrollStep t s).snapTt2 = s.snapTt2 := by unfold scrollStep; split <;> rfl
@[simp] theorem scrollStep_snapVol12 (s : State) (t : Nat) : (scrollStep t s).snapVol12 = s.snapVol12 := by unfold scrollStep; split <;> rfl
@[simp] theorem scrollStep_snapVol34 (s : State) (t : Nat) : (scrollStep t s).snapVol34 = s.snapVol34 := by unfold scrollStep; split <;> rfl
@[simp] theorem scrollStep_snapVol5 (s : State) (t : Nat) : (scrollStep t s).snapVol5 = s.snapVol5 := by unfold scrollStep; split <;> rfl
@[simp] theorem scrollStep_animIdx (s : State) (t : Nat) : (scrollStep t s).animIdx = s.animIdx := by unfold scrollStep; split <;> rfl
@[simp] theorem scrollStep_lastAnim (s : State) (t : Nat) : (scrollStep t s).lastAnim = s.lastAnim := by unfold scrollStep; split <;> rfl
@[simp] theorem scrollStep_seq (s : State) (t : Nat) : (scrollStep t s).seq = s.seq := by unfold scrollStep; split <;> rfl
@[simp] theorem scrollStep_mode (s : State) (t : Nat) : (scrollStep t s).mode = s.mode := by unfold scrollStep; split <;> rfl
@[simp] theorem scrollStep_fault (s : State) (t : Nat) : (scrollStep t s).fault = s.fault := by unfold scrollStep; split <;> rfl
@[simp] theorem scrollStep_events (s : State) (t : Nat) : (scrollStep t s).events = s.events := by unfold scrollStep; split <;> rfl
@[simp] theorem scrollStep_dataIn (s : State) (t : Nat) : (scrollStep t s).dataIn = s.dataIn := by unfold scrollStep; split <;> rfl
@[simp] theorem scrollStep_time (s : State) (t : Nat) : (scrollStep t s).time = s.time := by unfold scrollStep; split <;> rfl
@[simp] theorem scrollStep_requests (s : State) (t : Nat) : (scrollStep t s).requests = s.requests := by unfold scrollStep; split <;> rfl
@[simp] theorem scrollStep_reply (s : State) (t : Nat) : (scrollStep t s).reply = s.reply := by unfold scrollStep; split <;> rfl

/-! ### `chaseStep` -/

@[simp] theorem chaseStep_cfg (s : State) (t : Nat) : (chaseStep t s).cfg = s.cfg := by unfold chaseStep; split <;> rfl
@[simp] theorem chaseStep_clk (s : State) (t : Nat) : (chaseStep t s).clk = s.clk := by unfold chaseStep; split <;> rfl
@[simp] theorem chaseStep_enN (s : State) (t : Nat) : (chaseStep t s).enN = s.enN := by unfold chaseStep; split <;> rfl
@[simp] theorem chaseStep_dout (s : State) (t : Nat) : (chaseStep t s).dout = s.dout := by unfold chaseStep; split <;> rfl
@[simp] theorem chaseStep_phase (s : State) (t : Nat) : (chaseStep t s).phase = s.phase := by unfold chaseStep; split <;> rfl
@[simp] theorem chaseStep_bitn (s : State) (t : Nat) : (chaseStep t s).bitn = s.bitn := by unfold chaseStep; split <;> rfl
@[simp] theorem chaseStep_txAddr (s : State) (t : Nat) : (chaseStep t s).txAddr = s.txAddr := by unfold chaseStep; split <;> rfl
@[simp] theorem chaseStep_txData (s : State) (t : Nat) : (chaseStep t s).txData = s.txData := by unfold chaseStep; split <;> rfl
@[simp] theorem chaseStep_rx (s : State) (t : Nat) : (chaseStep t s).rx = s.rx := by unfold chaseStep; split <;> rfl
@[simp] theorem chaseStep_ack (s : State) (t : Nat) : (chaseStep t s).ack = s.ack := by unfold chaseStep; split <;> rfl
@[simp] theorem chaseStep_lastRx (s : State) (t : Nat) : (chaseStep t s).lastRx = s.lastRx := by unfold chaseStep; split <;> rfl
@[simp] theorem chaseStep_lastAck (s : State) (t : Nat) : (chaseStep t s).lastAck = s.lastAck := by unfold chaseStep; split <;> rfl
@[simp] theorem chaseStep_snapButtons (s : State) (t : Nat) : (chaseStep t s).snapButtons = s.snapButtons := by unfold chaseStep; split <;> rfl
@[simp] theorem chaseStep_snapTt1 (s : State) (t : Nat) : (chaseStep t s).snapTt1 = s.snapTt1 := by unfold chaseStep; split <;> rfl
@[simp] theorem chaseStep_snapTt2 (s : State) (t : Nat) : (chaseStep t s).snapTt2 = s.snapTt2 := by unfold chaseStep; split <;> rfl
@[simp] theorem chaseStep_snapVol12 (s : State) (t : Nat) : (chaseStep t s).snapVol12 = s.snapVol12 := by unfold chaseStep; split <;> rfl
@[simp] theorem chaseStep_snapVol34 (s : State) (t : Nat) : (chaseStep t s).snapVol34 = s.snapVol34 := by unfold chaseStep; split <;> rfl
@[simp] theorem chaseStep_snapVol5 (s : State) (t : Nat) : (chaseStep t s).snapVol5 = s.snapVol5 := by unfold chaseStep; split <;> rfl
@[simp] theorem chaseStep_cursor (s : State) (t : Nat) : (chaseStep t s).cursor = s.cursor := by unfold chaseStep; split <;> rfl
@[simp] theorem chaseStep_lastScroll (s : State) (t : Nat) : (chaseStep t s).lastScroll = s.lastScroll := by unfold chaseStep; split <;> rfl
@[simp] theorem chaseStep_seq (s : State) (t : Nat) : (chaseStep t s).seq = s.seq := by unfold chaseStep; split <;> rfl
@[simp] theorem chaseStep_mode (s : State) (t : Nat) : (chaseStep t s).mode = s.mode := by unfold chaseStep; split <;> rfl
@[simp] theorem chaseStep_fault (s : State) (t : Nat) : (chaseStep t s).fault = s.fault := by unfold chaseStep; split <;> rfl
@[simp] theorem chaseStep_events (s : State) (t : Nat) : (chaseStep t s).events = s.events := by unfold chaseStep; split <;> rfl
@[simp] theorem chaseStep_dataIn (s : State) (t : Nat) : (chaseStep t s).dataIn = s.dataIn := by unfold chaseStep; split <;> rfl
@[simp] theorem chaseStep_time (s : State) (t : Nat) : (chaseStep t s).time = s.time := by unfold chaseStep; split <;> rfl
@[simp] theorem chaseStep_requests (s : State) (t : Nat) : (chaseStep t s).requests = s.requests := by unfold chaseStep; split <;> rfl
@[simp] theorem chaseStep_reply (s : State) (t : Nat) : (chaseStep t s).reply = s.reply := by unfold chaseStep; split <;> rfl

end Sys2Proof.Machine
end

