-- ==== Sys2Proof/Laws/Transfer.lean ====
section
/-! SUPPORT. What the draws, the line primitives, the phases of a transfer and a whole transfer do, each said once. -/

namespace Sys2Proof.Machine

/-! ### Draws -/

@[simp] theorem Draws.peek_skip {α : Type} (free : Nat → α) (d : Draws α) (m k : Nat) :
    (d.skip m).peek free k = d.peek free (m + k) := by
  simp [Draws.peek, Draws.skip, Nat.add_assoc]

@[simp] theorem Draws.skip_skip {α : Type} (d : Draws α) (m n : Nat) : (d.skip m).skip n = d.skip (m + n) := by
  simp [Draws.skip, Nat.add_assoc]

theorem Draws.peek_script {α : Type} (free : Nat → α) (d : Draws α) (k : Nat) (h : k < d.script.length) :
    d.peek free k = d.script[k] := by
  simp [Draws.peek, List.getD, h]

/-! ### The primitives -/

theorem readInput_eq (s : State) :
    readInput s =
      (s.sampleAt 0, { s with dataIn := s.dataIn.skip 1, events := .sample (s.sampleAt 0) :: s.events }) := rfl

theorem cell_eq (b : Bool) (s : State) :
    cell b s =
      { s with
        clk := .driven true, dout := .driven b
        events := (cellEvents s.cfg.bitDelay b).reverse ++ s.events } := rfl

theorem xferBit_eq (b : Bool) (s : State) :
    xferBit b s =
      (s.sampleAt 0,
       { s with
         clk := .driven true, dout := .driven b, dataIn := s.dataIn.skip 1
         events := .sample (s.sampleAt 0) :: ((cellEvents s.cfg.bitDelay b).reverse ++ s.events) }) := rfl

theorem readBit_eq (s : State) :
    readBit s =
      (s.sampleAt 0,
       { s with
         clk := .driven true, dataIn := s.dataIn.skip 1
         events := [.sample (s.sampleAt 0), .wait s.cfg.bitDelay, .clk true, .wait s.cfg.bitDelay, .clk false]
           ++ s.events }) := rfl

theorem addrCell_eq (A : Byte) (s : State) (i : Fin 8) :
    addrCell A s i =
      { s with
        bitn := i, clk := .driven true, dout := .driven (A.getLsbD i)
        events := (cellEvents s.cfg.bitDelay (A.getLsbD i)).reverse ++ s.events } := rfl

theorem dataCell_eq (W : Byte) (s : State) (k : Fin 8) :
    dataCell W s k =
      { s with
        bitn := 7 - k, clk := .driven true, dout := .driven (W.getLsbD (7 - k : Fin 8))
        rx := s.rx ||| bitAt (s.sampleAt 0) (rxPos s.cfg k), dataIn := s.dataIn.skip 1
        events := .sample (s.sampleAt 0)
          :: ((cellEvents s.cfg.bitDelay (W.getLsbD (7 - k : Fin 8))).reverse ++ s.events) } := rfl

/-! ### The phases -/

theorem addrPhase_eq (A : Byte) (s : State) :
    addrPhase A s =
      { s with
        phase := .addr, bitn := 0, clk := .driven true, dout := .driven (A.getLsbD 0)
        events := (addrEvents s.cfg.bitDelay A).reverse ++ s.events } := by
  simp [addrPhase, addrCell_eq, addrEvents]

theorem ackPhase_eq (s : State) :
    ackPhase s =
      { s with
        phase := .ack, ack := ackOf (s.sampleAt 0), dataIn := s.dataIn.skip 1
        events := .sample (s.sampleAt 0) :: s.events } := rfl

theorem dataPhase_eq (W : Byte) (s : State) :
    dataPhase W s =
      { s with
        phase := .data, bitn := 0, clk := .driven true, dout := .driven (W.getLsbD 0)
        rx := ([0, 1, 2, 3, 4, 5, 6, 7] : List (Fin 8)).foldl
          (fun r (k : Fin 8) => r ||| bitAt (s.sampleAt k) (rxPos s.cfg k)) s.rx
        dataIn := s.dataIn.skip 8
        events := (dataEvents s.cfg.bitDelay W s.sampleAt).reverse ++ s.events } := by
  simp [dataPhase, dataCell_eq, dataEvents, State.sampleAt]

/-! ### One transfer -/

/-- A transfer always completes, and this is all it does (rule R74). -/
theorem xferBody_eq (a d : Byte) (s : State) : xferBody a d s = afterTransfer a d s := by
  simp [xferBody, dataPhase_eq, addrPhase_eq, ackPhase_eq, afterTransfer, State.rxFrom, State.ackFrom,
    State.framesFrom, received, transferEvents, State.sampleAt, setEnable, State.emit, Nat.add_comm]
  congr 1
  funext k
  simp [State.sampleAt, Nat.add_comm]

/-- A read of an input register: one transfer, then the snapshot (rule R81). -/
theorem readInto_eq (r : InputReg) (s : State) :
    readInto r s = (afterTransfer (tableAddr (.input r)) 0 s).setSnapshot r (s.rxFrom 0) := by
  unfold readInto
  rw [xferBody_eq]
  rfl

theorem tickWrite_eq (n : Fin 17) (r : OutputReg) (v : Byte) (s : State) :
    tickWrite n r v s = afterTransfer (tableAddr (.output r)) v { s with seq := .transfer n } := by
  rw [tickWrite, xferBody_eq]

/-! ### The wire policy -/

/-- The inversion policy undoes itself (rule R53): the data byte whose wire byte is `w` is `wireData c w`. -/
@[simp] theorem wireData_wireData (c : Cfg) (w : Byte) : wireData c (wireData c w) = w := by
  unfold wireData; split <;> simp

end Sys2Proof.Machine
end

