-- ==== Sys2Proof/Laws/Ops.lean ====
section
/-! SUPPORT. How an operation can end, and what the host's requests do: one lemma per shared operation. -/

namespace Sys2Proof.Machine

theorem finish_eq (r : Reply) (s : State) : finish r s = .next { s with reply := r } := rfl

theorem refuse_eq (r : RefuseReason) (s : State) : refuse r s = .next { s with reply := .refused r } := rfl

theorem raiseFault_eq (r : FaultReason) (s : State) :
    raiseFault r s = .next { s with fault := some r, mode := .faulted, reply := .faulted r } := rfl

theorem whenReady_of_ready {s : State} (k : State → Host.Outcome State Fault Refusal) (h : s.mode = .ready) :
    whenReady s k = k s := by simp [whenReady, h]

theorem whenReady_of_not_ready {s : State} (k : State → Host.Outcome State Fault Refusal) (h : s.mode ≠ .ready) :
    whenReady s k = .next { s with reply := .refused .notReady } := by simp [whenReady, h, refuse_eq]

/-- Setting the mode a transfer runs under changes nothing else of what it does. -/
theorem afterTransfer_mode (a d : Byte) (s : State) (m : Mode) :
    afterTransfer a d { s with mode := m } = { afterTransfer a d s with mode := m } := rfl

/-- In `READY` an operation that runs one transfer leaves that transfer's state, `READY` again (rule R80). -/
theorem busily_xferBody {s : State} (a d : Byte) (h : s.mode = .ready) :
    busily (xferBody a d) s = afterTransfer a d s := by
  simp only [busily, xferBody_eq, afterTransfer_mode]
  simp only [afterTransfer, h]

theorem busily_readInto {s : State} (r : InputReg) (h : s.mode = .ready) :
    busily (readInto r) s = (afterTransfer (tableAddr (.input r)) 0 s).setSnapshot r (s.rxFrom 0) := by
  simp only [busily, readInto_eq, afterTransfer_mode]
  cases r <;> simp only [State.setSnapshot, afterTransfer, h] <;> rfl

theorem transferRequest_ready {s : State} {a d : Nat} (h : s.mode = .ready) (ha : a ≤ 0xFF) (hd : d ≤ 0xFF) :
    transferRequest a d s =
      .next { afterTransfer (BitVec.ofNat 8 a) (BitVec.ofNat 8 d) s with reply := .rxAck (s.rxFrom 0) (s.ackFrom 0) } := by
  simp only [transferRequest, whenReady_of_ready _ h, busily_xferBody _ _ h]
  rw [if_neg (by omega)]
  rfl

theorem readRequest_ready {s : State} (r : InputReg) (h : s.mode = .ready) :
    readRequest (.input r) s =
      .next { (afterTransfer (tableAddr (.input r)) 0 s).setSnapshot r (s.rxFrom 0) with
        reply := .byte (s.rxFrom 0) } := by
  simp only [readRequest, whenReady_of_ready _ h, busily_readInto _ h, finish_eq, State.setSnapshot_rx]
  rfl

theorem writeRequest_ready {s : State} (r : OutputReg) {v : Nat} (h : s.mode = .ready) (hv : v ≤ 0xFF) :
    writeRequest (.output r) v s =
      .next { afterTransfer (tableAddr (.output r)) (BitVec.ofNat 8 v) s with reply := .done } := by
  simp only [writeRequest, whenReady_of_ready _ h, busily_xferBody _ _ h]
  rw [if_neg (by omega)]
  rfl

/-- `PEEK` finds a field readable in every mode only where it is asked for `S.mode` or `S.fault` (rule R119). -/
theorem peekValue_eq_always {s : State} {f : PeekField} {r : Reply} (h : peekValue s f = .always r) :
    f = .mode ∨ f = .fault := by
  cases f with
  | snapshot r => cases hs : s.snapshot r <;> simp [peekValue, PeekResult.ofOption, hs] at h
  | named r v =>
    cases r with
    | input r => cases hs : s.snapshot r <;> simp [peekValue, PeekResult.ofOption, hs] at h
    | output r => simp [peekValue] at h
  | lastRx => cases hs : s.lastRx <;> simp [peekValue, PeekResult.ofOption, hs] at h
  | lastAck => cases hs : s.lastAck <;> simp [peekValue, PeekResult.ofOption, hs] at h
  | mode => exact .inl rfl
  | fault => exact .inr rfl
  | _ => simp [peekValue] at h

/-- All the assignments and events of a reset (rules R33, R135). -/
theorem resetCore_eq (cfg : Cfg) (t0 : Nat) (s : State) :
    resetCore cfg t0 s =
      { s with
        cfg := cfg, clk := .driven true, enN := .driven true, dout := .driven false, phase := .idle, seq := .idle
        lastRx := none, lastAck := none, snapButtons := none, snapTt1 := none, snapTt2 := none, snapVol12 := none
        snapVol34 := none, snapVol5 := none, cursor := 0, lastScroll := t0, animIdx := 0
        lastAnim := t0, fault := none
        events := [.dout false, .clk true, .en true] ++ s.events } := rfl

end Sys2Proof.Machine
end

