-- ==== Sys2Proof/Laws/Exec.lean ====
section
/-! SUPPORT. Everything an operation can do: what follows where `exec i s` answers `.next t`, as one case split, so that no
later proof goes through the arms of `exec`. -/

namespace Sys2Proof.Machine

/-- Only the answer to the host changes, and it is no fault: a refusal, a value read, or a computed result. -/
def Answered (s t : State) : Prop := ∃ r : Reply, t = { s with reply := r } ∧ ∀ f, r ≠ .faulted f

/-- One transfer was made in `READY` and nothing else. -/
def Transferred (s t : State) : Prop :=
  s.mode = .ready ∧ ∃ (a d : Byte) (r : Reply), t = { afterTransfer a d s with reply := r }
    ∧ (∀ f, r ≠ .faulted f) ∧ ∀ q, r ≠ .refused q

/-- The input register `r` was read in `READY`. -/
def Read (r : InputReg) (s t : State) : Prop :=
  s.mode = .ready ∧
    t = { (afterTransfer (tableAddr (.input r)) 0 s).setSnapshot r (s.rxFrom 0) with reply := .byte (s.rxFrom 0) }

/-- A bit primitive: lines, one draw at most, events. -/
def Clocked (s t : State) : Prop :=
  ∃ (c o : LineLevel) (n : Nat) (E : List Event) (r : Reply),
    t = { s with clk := c, dout := o, dataIn := s.dataIn.skip n, events := E ++ s.events, reply := r }
      ∧ (∀ f, r ≠ .faulted f) ∧ ∀ q, r ≠ .refused q

/-- A reset outside `BUSY`, at a time of the record's width. -/
def Restarted (cfg : Cfg) (t0 : Nat) (s t : State) : Prop :=
  s.mode ≠ .busy ∧ t0 < timeModulus cfg ∧
    ((cfgValid cfg = true ∧ t = { resetCore cfg t0 s with mode := .ready, reply := .done })
      ∨ (cfgValid cfg = false ∧
        t = { resetCore cfg t0 s with fault := some .config, mode := .unconfigured, reply := .faulted .config }))

theorem answered_of_eq {s t : State} {r : Reply} (hr : ∀ f, r ≠ .faulted f)
    (h : (.next { s with reply := r } : Host.Outcome State Fault Refusal) = .next t) : Answered s t := by
  injection h with h
  exact ⟨r, h.symm, hr⟩

theorem transferRequest_cases {a d : Nat} {s t : State} (h : transferRequest a d s = .next t) :
    Answered s t ∨ Transferred s t := by
  by_cases hm : s.mode = .ready
  · by_cases ha : a ≤ 0xFF ∧ d ≤ 0xFF
    · rw [transferRequest_ready hm ha.1 ha.2] at h
      injection h with h
      exact .inr ⟨hm, _, _, _, h.symm, by simp, by simp⟩
    · rw [transferRequest, whenReady_of_ready _ hm, if_pos (by omega), refuse_eq] at h
      exact .inl (answered_of_eq (by simp) h)
  · rw [transferRequest, whenReady_of_not_ready _ hm] at h
    exact .inl (answered_of_eq (by simp) h)

theorem readRequest_cases {r : RegName} {s t : State} (h : readRequest r s = .next t) :
    Answered s t ∨ ∃ q, r = .input q ∧ Read q s t := by
  by_cases hm : s.mode = .ready
  · cases r with
    | input r =>
      rw [readRequest_ready r hm] at h
      injection h with h
      exact .inr ⟨r, rfl, hm, h.symm⟩
    | output r =>
      rw [readRequest, whenReady_of_ready _ hm, refuse_eq] at h
      exact .inl (answered_of_eq (by simp) h)
  · rw [readRequest, whenReady_of_not_ready _ hm] at h
    exact .inl (answered_of_eq (by simp) h)

theorem writeRequest_cases {r : RegName} {v : Nat} {s t : State} (h : writeRequest r v s = .next t) :
    Answered s t ∨ Transferred s t := by
  by_cases hm : s.mode = .ready
  · cases r with
    | input r =>
      rw [writeRequest, whenReady_of_ready _ hm, refuse_eq] at h
      exact .inl (answered_of_eq (by simp) h)
    | output r =>
      by_cases hv : v ≤ 0xFF
      · rw [writeRequest_ready r hm hv] at h
        injection h with h
        exact .inr ⟨hm, _, _, _, h.symm, by simp, by simp⟩
      · rw [writeRequest, whenReady_of_ready _ hm] at h
        simp only [if_pos (show 0xFF < v by omega), refuse_eq] at h
        exact .inl (answered_of_eq (by simp) h)
  · rw [writeRequest, whenReady_of_not_ready _ hm] at h
    exact .inl (answered_of_eq (by simp) h)

theorem inputFrame_cases {r : InputReg} {w : Byte} {s t : State} (h : inputFrame r w s = .next t) :
    Answered s t ∨ Transferred s t ∨ (w = wireData s.cfg 0 ∧ Read r s t) := by
  unfold inputFrame at h
  split at h
  · rename_i hw
    rcases readRequest_cases h with h | ⟨q, hq, h⟩
    · exact .inl h
    · cases hq; exact .inr (.inr ⟨hw, h⟩)
  · rcases transferRequest_cases h with h | h
    · exact .inl h
    · exact .inr (.inl h)

theorem execReset_cases {cfg : Cfg} {t0 : Nat} {s t : State} (h : execReset cfg t0 s = .next t) :
    Answered s t ∨ Restarted cfg t0 s t := by
  unfold execReset at h
  split at h
  · rw [refuse_eq] at h
    exact .inl (answered_of_eq (by simp) h)
  · rename_i hb
    split at h
    · rw [refuse_eq] at h
      exact .inl (answered_of_eq (by simp) h)
    · rename_i ht
      refine .inr ⟨hb, by omega, ?_⟩
      cases hv : cfgValid cfg <;> simp only [hv, finish_eq] at h <;> injection h with h
      · exact .inr ⟨rfl, h.symm⟩
      · exact .inl ⟨rfl, h.symm⟩

theorem execTick_cases {s t : State} (h : execTick s = .next t) :
    Answered s t ∨ (s.mode = .ready ∧ t = { busily tickBody s with reply := .done }) := by
  by_cases hm : s.mode = .ready
  · rw [execTick, whenReady_of_ready _ hm, finish_eq] at h
    injection h with h
    exact .inr ⟨hm, h.symm⟩
  · rw [execTick, whenReady_of_not_ready _ hm] at h
    exact .inl (answered_of_eq (by simp) h)

/-- A value that `PEEK` finds is never a fault of its own. -/
theorem peekValue_no_fault {s : State} {f : PeekField} {r : Reply}
    (h : peekValue s f = .always r ∨ peekValue s f = .value r) (q : FaultReason) : r ≠ .faulted q := by
  rintro rfl
  cases f with
  | snapshot r => cases hs : s.snapshot r <;> simp [peekValue, PeekResult.ofOption, hs] at h
  | named r v =>
    cases r with
    | input r => cases hs : s.snapshot r <;> cases v <;> simp [peekValue, PeekResult.ofOption, hs, namedField] at h
    | output r => simp [peekValue] at h
  | lastRx => cases hs : s.lastRx <;> simp [peekValue, PeekResult.ofOption, hs] at h
  | lastAck => cases hs : s.lastAck <;> simp [peekValue, PeekResult.ofOption, hs] at h
  | _ => simp [peekValue] at h

theorem execPeek_cases {f : PeekField} {s t : State} (h : execPeek f s = .next t) :
    Answered s t ∨ (s.mode = .ready ∧
      t = { s with fault := some .unwritten, mode := .faulted, reply := .faulted .unwritten }) := by
  unfold execPeek at h
  split at h
  · rw [refuse_eq] at h; exact .inl (answered_of_eq (by simp) h)
  · split at h
    · rw [refuse_eq] at h; exact .inl (answered_of_eq (by simp) h)
    · split at h
      · by_cases hm : s.mode = .ready
        · rw [whenReady_of_ready _ hm, refuse_eq] at h; exact .inl (answered_of_eq (by simp) h)
        · rw [whenReady_of_not_ready _ hm] at h; exact .inl (answered_of_eq (by simp) h)
      · rename_i hp
        rw [finish_eq] at h
        exact .inl (answered_of_eq (peekValue_no_fault (.inl hp)) h)
      · rename_i hp
        by_cases hm : s.mode = .ready
        · rw [whenReady_of_ready _ hm, finish_eq] at h
          exact .inl (answered_of_eq (peekValue_no_fault (.inr hp)) h)
        · rw [whenReady_of_not_ready _ hm] at h; exact .inl (answered_of_eq (by simp) h)
      · by_cases hm : s.mode = .ready
        · rw [whenReady_of_ready _ hm, raiseFault_eq] at h
          injection h with h
          exact .inr ⟨hm, h.symm⟩
        · rw [whenReady_of_not_ready _ hm] at h; exact .inl (answered_of_eq (by simp) h)

/-- The operations that are bit primitives (rule R61: no host can request them). -/
def isPrimitive : Instr → Prop
  | .writeBit _ => True
  | .readBit => True
  | .xferBit _ => True
  | .sampleAck => True
  | _ => False

/-- What an operation that took `s` to `t` did. -/
inductive Did (i : Instr) (s t : State) : Prop where
  | answered (h : Answered s t)
  | transferred (h : Transferred s t)
  | read (r : InputReg) (hi : i = .readReg (.input r) ∨ i = frameOf (.input r) (wireData s.cfg 0)) (h : Read r s t)
  | restarted (cfg : Cfg) (t0 : Nat) (hi : i = .reset cfg t0) (h : Restarted cfg t0 s t)
  | ticked (hi : i = .tick) (hm : s.mode = .ready) (h : t = { busily tickBody s with reply := .done })
  | unwritten (f : PeekField) (hi : i = .peek f) (hm : s.mode = .ready)
      (h : t = { s with fault := some .unwritten, mode := .faulted, reply := .faulted .unwritten })
  | clocked (hi : isPrimitive i) (h : Clocked s t)
  | scrolled (x : Nat) (hi : i = .scrollStep x) (h : t = { scrollStep x s with reply := .done })
  | chased (x : Nat) (hi : i = .chaseStep x) (h : t = { chaseStep x s with reply := .done })

theorem did_of_or {i : Instr} {s t : State} (h : Answered s t ∨ Transferred s t) : Did i s t :=
  h.elim .answered .transferred

theorem did_of_inputFrame {r : InputReg} {w : Byte} {s t : State} (h : inputFrame r w s = .next t) :
    Did (frameOf (.input r) w) s t := by
  rcases inputFrame_cases h with h' | h' | ⟨rfl, h'⟩
  · exact .answered h'
  · exact .transferred h'
  · exact .read r (.inr rfl) h'

theorem did_of_outputFrame {r : OutputReg} {w : Byte} {i : Instr} {s t : State} (h : outputFrame r w s = .next t) :
    Did i s t := did_of_or (writeRequest_cases h)

theorem did_of_primitive {i : Instr} {s t : State} (hi : isPrimitive i) (c o : LineLevel) (n : Nat) (E : List Event)
    (r : Reply) (hf : ∀ f, r ≠ .faulted f) (hq : ∀ q, r ≠ .refused q)
    (h : (.next { s with clk := c, dout := o, dataIn := s.dataIn.skip n, events := E ++ s.events, reply := r } :
      Host.Outcome State Fault Refusal) = .next t) : Did i s t := by
  injection h with h
  exact .clocked hi ⟨c, o, n, E, r, h.symm, hf, hq⟩

/-- Everything an operation that answers a next state can have done. -/
theorem exec_cases {i : Instr} {s t : State} (h : exec i s = .next t) : Did i s t := by
  cases i with
  | frameButtons w => exact did_of_inputFrame (r := .buttons) h
  | frameTurntableP1 w => exact did_of_inputFrame (r := .turntableP1) h
  | frameTurntableP2 w => exact did_of_inputFrame (r := .turntableP2) h
  | frameVolumePair12 w => exact did_of_inputFrame (r := .volumePair12) h
  | frameVolumePair34 w => exact did_of_inputFrame (r := .volumePair34) h
  | frameVolume5 w => exact did_of_inputFrame (r := .volume5) h
  | frameButtonLamps w => exact did_of_outputFrame h
  | frameSixteenSegment1 w => exact did_of_outputFrame h
  | frameSixteenSegment2 w => exact did_of_outputFrame h
  | frameSixteenSegment3 w => exact did_of_outputFrame h
  | frameSixteenSegment4 w => exact did_of_outputFrame h
  | frameSixteenSegment5 w => exact did_of_outputFrame h
  | frameSixteenSegment6 w => exact did_of_outputFrame h
  | frameSixteenSegment7 w => exact did_of_outputFrame h
  | frameSixteenSegment8 w => exact did_of_outputFrame h
  | frameSixteenSegment9 w => exact did_of_outputFrame h
  | frameSpotlights w => exact did_of_outputFrame h
  | frameNeon w => exact did_of_outputFrame h
  | frameUnassigned a w => exact did_of_or (transferRequest_cases h)
  | reset cfg t0 => exact (execReset_cases h).elim .answered (.restarted cfg t0 rfl)
  | transfer a d => exact did_of_or (transferRequest_cases h)
  | readReg r =>
    rcases readRequest_cases h with h' | ⟨q, rfl, h'⟩
    · exact .answered h'
    · exact .read q (.inl rfl) h'
  | writeReg r v => exact did_of_or (writeRequest_cases h)
  | tick => exact (execTick_cases h).elim .answered fun h => .ticked rfl h.1 h.2
  | peek f => exact (execPeek_cases h).elim .answered fun h => .unwritten f rfl h.1 h.2
  | writeBit b =>
    exact did_of_primitive trivial (.driven true) (.driven b) 0 (cellEvents s.cfg.bitDelay b).reverse .done
      (by simp) (by simp) h
  | readBit =>
    exact did_of_primitive trivial (.driven true) s.dout 1
      [.sample (s.sampleAt 0), .wait s.cfg.bitDelay, .clk true, .wait s.cfg.bitDelay, .clk false]
      (.bit (s.sampleAt 0)) (by simp) (by simp) h
  | xferBit b =>
    exact did_of_primitive trivial (.driven true) (.driven b) 1
      (.sample (s.sampleAt 0) :: (cellEvents s.cfg.bitDelay b).reverse) (.bit (s.sampleAt 0)) (by simp) (by simp) h
  | sampleAck =>
    exact did_of_primitive trivial s.clk s.dout 1 [.sample (s.sampleAt 0)] (.bit (s.sampleAt 0)) (by simp) (by simp) h
  | encodeSlider a b =>
    simp only [exec, execEncodeSlider] at h
    split at h
    · exact .answered (answered_of_eq (by simp) h)
    · exact .answered (answered_of_eq (by simp) h)
  | scrollStep x => injection h with h; exact .scrolled x rfl h.symm
  | chaseStep x => injection h with h; exact .chased x rfl h.symm
  | lamp k => exact did_of_or (writeRequest_cases (show execLamp k s = _ from h))
  | seg c v => exact did_of_or (writeRequest_cases (show execSeg c v s = _ from h))
  | neon on => exact did_of_or (writeRequest_cases (show execNeon on s = _ from h))
  | addrOf r => exact .answered (answered_of_eq (by simp) h)
  | regOf a => exact .answered (answered_of_eq (by simp) h)
  | decodeRaw b => exact .answered (answered_of_eq (by simp) h)
  | encodeRaw b => exact .answered (answered_of_eq (by simp) h)
  | decodeSlider b => exact .answered (answered_of_eq (by simp) h)
  | decodeButtons b => exact .answered (answered_of_eq (by simp) h)
  | encodeButtons v => exact .answered (answered_of_eq (by simp) h)
  | decodeSpot b => exact .answered (answered_of_eq (by simp) h)
  | encodeSpot v => exact .answered (answered_of_eq (by simp) h)
  | decodeNeon b => exact .answered (answered_of_eq (by simp) h)
  | encodeNeon on => exact .answered (answered_of_eq (by simp) h)
  | render j => exact .answered (answered_of_eq (by simp) h)
  | spotByte k => exact .answered (answered_of_eq (by simp) h)
  | neonByte k => exact .answered (answered_of_eq (by simp) h)

end Sys2Proof.Machine
end

