-- ==== Sys2Proof/Laws/PerInstr.lean ====
section
/-! SUPPORT. A statement about every operation as syntax, one lemma per constructor: an encoding, where there is one, is a
frame word whose low byte is the frame's wire data byte, and an operation that is no frame has none (rule R62). -/

namespace Sys2Proof.Laws.OnlyFramesEncoded

/-- The wire data byte of a frame; none for an operation that is no frame. -/
def wireByte : Instr → Option Byte
  | .frameButtons w => some w
  | .frameTurntableP1 w => some w
  | .frameTurntableP2 w => some w
  | .frameVolumePair12 w => some w
  | .frameVolumePair34 w => some w
  | .frameVolume5 w => some w
  | .frameButtonLamps w => some w
  | .frameSixteenSegment1 w => some w
  | .frameSixteenSegment2 w => some w
  | .frameSixteenSegment3 w => some w
  | .frameSixteenSegment4 w => some w
  | .frameSixteenSegment5 w => some w
  | .frameSixteenSegment6 w => some w
  | .frameSixteenSegment7 w => some w
  | .frameSixteenSegment8 w => some w
  | .frameSixteenSegment9 w => some w
  | .frameSpotlights w => some w
  | .frameNeon w => some w
  | .frameUnassigned _ w => some w
  | .reset _ _ => none
  | .transfer _ _ => none
  | .readReg _ => none
  | .writeReg _ _ => none
  | .tick => none
  | .peek _ => none
  | .writeBit _ => none
  | .readBit => none
  | .xferBit _ => none
  | .sampleAck => none
  | .addrOf _ => none
  | .regOf _ => none
  | .decodeRaw _ => none
  | .encodeRaw _ => none
  | .decodeSlider _ => none
  | .encodeSlider _ _ => none
  | .decodeButtons _ => none
  | .encodeButtons _ => none
  | .decodeSpot _ => none
  | .encodeSpot _ => none
  | .decodeNeon _ => none
  | .encodeNeon _ => none
  | .scrollStep _ => none
  | .render _ => none
  | .chaseStep _ => none
  | .spotByte _ => none
  | .neonByte _ => none
  | .lamp _ => none
  | .seg _ _ => none
  | .neon _ => none

/-- The low byte of the encoding is the wire data byte, and there is an encoding exactly for a frame. -/
def Statement (i : Instr) : Prop := (encode i).map frameData = wireByte i

theorem frameButtons (w : Byte) : Statement (.frameButtons w) := congrArg some (frameData_append _ w)
theorem frameTurntableP1 (w : Byte) : Statement (.frameTurntableP1 w) := congrArg some (frameData_append _ w)
theorem frameTurntableP2 (w : Byte) : Statement (.frameTurntableP2 w) := congrArg some (frameData_append _ w)
theorem frameVolumePair12 (w : Byte) : Statement (.frameVolumePair12 w) := congrArg some (frameData_append _ w)
theorem frameVolumePair34 (w : Byte) : Statement (.frameVolumePair34 w) := congrArg some (frameData_append _ w)
theorem frameVolume5 (w : Byte) : Statement (.frameVolume5 w) := congrArg some (frameData_append _ w)
theorem frameButtonLamps (w : Byte) : Statement (.frameButtonLamps w) := congrArg some (frameData_append _ w)
theorem frameSixteenSegment1 (w : Byte) : Statement (.frameSixteenSegment1 w) := congrArg some (frameData_append _ w)
theorem frameSixteenSegment2 (w : Byte) : Statement (.frameSixteenSegment2 w) := congrArg some (frameData_append _ w)
theorem frameSixteenSegment3 (w : Byte) : Statement (.frameSixteenSegment3 w) := congrArg some (frameData_append _ w)
theorem frameSixteenSegment4 (w : Byte) : Statement (.frameSixteenSegment4 w) := congrArg some (frameData_append _ w)
theorem frameSixteenSegment5 (w : Byte) : Statement (.frameSixteenSegment5 w) := congrArg some (frameData_append _ w)
theorem frameSixteenSegment6 (w : Byte) : Statement (.frameSixteenSegment6 w) := congrArg some (frameData_append _ w)
theorem frameSixteenSegment7 (w : Byte) : Statement (.frameSixteenSegment7 w) := congrArg some (frameData_append _ w)
theorem frameSixteenSegment8 (w : Byte) : Statement (.frameSixteenSegment8 w) := congrArg some (frameData_append _ w)
theorem frameSixteenSegment9 (w : Byte) : Statement (.frameSixteenSegment9 w) := congrArg some (frameData_append _ w)
theorem frameSpotlights (w : Byte) : Statement (.frameSpotlights w) := congrArg some (frameData_append _ w)
theorem frameNeon (w : Byte) : Statement (.frameNeon w) := congrArg some (frameData_append _ w)
theorem frameUnassigned (a : Byte) (w : Byte) : Statement (.frameUnassigned a w) := congrArg some (frameData_append a w)
theorem reset (cfg : Cfg) (t0 : Nat) : Statement (.reset cfg t0) := rfl
theorem transfer (a : Nat) (d : Nat) : Statement (.transfer a d) := rfl
theorem readReg (r : RegName) : Statement (.readReg r) := rfl
theorem writeReg (r : RegName) (v : Nat) : Statement (.writeReg r v) := rfl
theorem tick : Statement .tick := rfl
theorem peek (f : PeekField) : Statement (.peek f) := rfl
theorem writeBit (b : Bool) : Statement (.writeBit b) := rfl
theorem readBit : Statement .readBit := rfl
theorem xferBit (b : Bool) : Statement (.xferBit b) := rfl
theorem sampleAck : Statement .sampleAck := rfl
theorem addrOf (r : RegName) : Statement (.addrOf r) := rfl
theorem regOf (a : Byte) : Statement (.regOf a) := rfl
theorem decodeRaw (b : Byte) : Statement (.decodeRaw b) := rfl
theorem encodeRaw (b : Byte) : Statement (.encodeRaw b) := rfl
theorem decodeSlider (b : Byte) : Statement (.decodeSlider b) := rfl
theorem encodeSlider (first : Nat) (second : Nat) : Statement (.encodeSlider first second) := rfl
theorem decodeButtons (b : Byte) : Statement (.decodeButtons b) := rfl
theorem encodeButtons (v : ButtonsView) : Statement (.encodeButtons v) := rfl
theorem decodeSpot (b : Byte) : Statement (.decodeSpot b) := rfl
theorem encodeSpot (v : SpotView) : Statement (.encodeSpot v) := rfl
theorem decodeNeon (b : Byte) : Statement (.decodeNeon b) := rfl
theorem encodeNeon (on : Bool) : Statement (.encodeNeon on) := rfl
theorem scrollStep (t : Nat) : Statement (.scrollStep t) := rfl
theorem render (i : Fin 9) : Statement (.render i) := rfl
theorem chaseStep (t : Nat) : Statement (.chaseStep t) := rfl
theorem spotByte (k : Fin 8) : Statement (.spotByte k) := rfl
theorem neonByte (k : Fin 8) : Statement (.neonByte k) := rfl
theorem lamp (k : Fin 8) : Statement (.lamp k) := rfl
theorem seg (cell : Fin 9) (code : Nat) : Statement (.seg cell code) := rfl
theorem neon (on : Bool) : Statement (.neon on) := rfl

end Sys2Proof.Laws.OnlyFramesEncoded
end

