-- ==== Sys2Proof/Laws/Tick.lean ====
section
/-! SUPPORT. The scheduler steps and the three parts of a tick, each said once as the state it leaves. -/

namespace Sys2Proof.Machine

/-! ### Time values -/

@[simp] theorem timeValue_timeValue (c : Cfg) (t : Nat) : timeValue c (timeValue c t) = timeValue c t := by
  simp [timeValue]

theorem timeValue_lt (c : Cfg) (t : Nat) : timeValue c t < timeModulus c :=
  Nat.mod_lt _ (Nat.two_pow_pos _)

@[simp] theorem timeValue_timeAt (s : State) (k : Nat) : timeValue s.cfg (s.timeAt k) = s.timeAt k :=
  timeValue_timeValue _ _

theorem timeAt_lt (s : State) (k : Nat) : s.timeAt k < timeModulus s.cfg := timeValue_lt _ _

/-! ### The scheduler steps -/

/-- All a chase step can do (rule R113). -/
theorem chaseStep_eq (t : Nat) (s : State) (h : timeValue s.cfg t = t) :
    chaseStep t s = { s with animIdx := (chased s t).1, lastAnim := (chased s t).2 } := by
  unfold chaseStep chased
  split <;> simp [h]

/-- All a scroll step can do (rule R109). -/
theorem scrollStep_eq (t : Nat) (s : State) (h : timeValue s.cfg t = t) :
    scrollStep t s = { s with cursor := (scrolled s t).1, lastScroll := (scrolled s t).2 } := by
  unfold scrollStep scrolled
  split <;> simp [h]

/-! ### The parts of a tick (rule R99) -/

theorem tickRead_eq (n : Fin 17) (r : InputReg) (s : State) :
    tickRead s (n, r) =
      (afterTransfer (tableAddr (.input r)) 0 { s with seq := .transfer n }).setSnapshot r (s.rxFrom 0) := by
  simp only [tickRead, readInto_eq]
  rfl

/-- The six reads: their snapshots, 54 samples, and the traces of six transfers. -/
theorem tickReads_eq (s : State) :
    tickReads s =
      { s with
        clk := .driven true, enN := .driven true, dout := .driven ((wireData s.cfg 0).getLsbD 0)
        phase := .idle, bitn := 0, txAddr := wireAddr s.cfg 0x2F, txData := wireData s.cfg 0
        rx := s.rxFrom 45, ack := s.ackFrom 45, lastRx := some (s.rxFrom 45), lastAck := some (s.ackFrom 45)
        snapButtons := some (s.rxFrom 0), snapTt1 := some (s.rxFrom 9), snapTt2 := some (s.rxFrom 18)
        snapVol12 := some (s.rxFrom 27), snapVol34 := some (s.rxFrom 36), snapVol5 := some (s.rxFrom 45)
        seq := .transfer 5, dataIn := s.dataIn.skip 54
        events := (s.pollEvents 0 [(0x07, 0), (0x0F, 0), (0x17, 0), (0x1F, 0), (0x27, 0), (0x2F, 0)]).reverse
          ++ s.events } := by
  simp only [tickReads, inputOrder, List.foldl_cons, List.foldl_nil, tickRead_eq, afterTransfer, State.setSnapshot,
    State.rxFrom, State.ackFrom, State.sampleAt, State.framesFrom, State.pollEvents, Draws.peek_skip, Draws.skip_skip,
    Nat.reduceAdd, List.reverse_append, List.append_assoc, List.append_nil, ← Nat.add_assoc]
  rfl

/-- The chase step at the first time sample and the two writes it decides. -/
theorem tickLamps_eq (s : State) :
    tickLamps s =
      { s with
        clk := .driven true, enN := .driven true
        dout := .driven ((wireData s.cfg (neonByteOf s.cfg (chased s (s.timeAt 0)).1)).getLsbD 0)
        phase := .idle, bitn := 0, txAddr := wireAddr s.cfg 0x8F
        txData := wireData s.cfg (neonByteOf s.cfg (chased s (s.timeAt 0)).1)
        rx := s.rxFrom 9, ack := s.ackFrom 9, lastRx := some (s.rxFrom 9), lastAck := some (s.ackFrom 9)
        animIdx := (chased s (s.timeAt 0)).1, lastAnim := (chased s (s.timeAt 0)).2, time := s.time.skip 1
        seq := .transfer 7, dataIn := s.dataIn.skip 18
        events := (s.pollEvents 0 [(0x87, spotByteOf (chased s (s.timeAt 0)).1),
          (0x8F, neonByteOf s.cfg (chased s (s.timeAt 0)).1)]).reverse ++ s.events } := by
  simp only [tickLamps, now]
  rw [chaseStep_eq (s.timeAt 0) { s with time := s.time.skip 1 } (timeValue_timeAt s 0)]
  have e : chased { s with time := s.time.skip 1 } (s.timeAt 0) = chased s (s.timeAt 0) := rfl
  rw [e]
  generalize chased s (s.timeAt 0) = c
  simp only [tickWrite_eq, afterTransfer, State.rxFrom, State.ackFrom, State.sampleAt, State.framesFrom,
    State.pollEvents, Draws.peek_skip, Draws.skip_skip, Nat.reduceAdd, List.reverse_append, List.append_assoc,
    List.append_nil, ← Nat.add_assoc]
  rfl

/-- The scroll step at the next time sample and the nine writes it decides. -/
theorem tickText_eq (s : State) :
    tickText s =
      { s with
        clk := .driven true, enN := .driven true
        dout := .driven ((wireData s.cfg (renderByte s.cfg (scrolled s (s.timeAt 0)).1 8)).getLsbD 0)
        phase := .idle, bitn := 0, txAddr := wireAddr s.cfg 0x7F
        txData := wireData s.cfg (renderByte s.cfg (scrolled s (s.timeAt 0)).1 8)
        rx := s.rxFrom 72, ack := s.ackFrom 72, lastRx := some (s.rxFrom 72), lastAck := some (s.ackFrom 72)
        cursor := (scrolled s (s.timeAt 0)).1, lastScroll := (scrolled s (s.timeAt 0)).2, time := s.time.skip 1
        seq := .transfer 16, dataIn := s.dataIn.skip 81
        events := (s.pollEvents 0 ((pollRows s.cfg 0 (scrolled s (s.timeAt 0)).1).drop 8)).reverse ++ s.events } := by
  simp only [tickText, now]
  rw [scrollStep_eq (s.timeAt 0) { s with time := s.time.skip 1 } (timeValue_timeAt s 0)]
  have e : scrolled { s with time := s.time.skip 1 } (s.timeAt 0) = scrolled s (s.timeAt 0) := rfl
  rw [e]
  generalize scrolled s (s.timeAt 0) = c
  simp only [cellOrder, tickCell, List.foldl_cons, List.foldl_nil, tickWrite_eq, afterTransfer, State.rxFrom,
    State.ackFrom, State.sampleAt, State.framesFrom, State.pollEvents, pollRows, List.drop_succ_cons, List.drop_zero,
    Draws.peek_skip, Draws.skip_skip, Nat.reduceAdd, List.reverse_append, List.append_assoc, List.append_nil,
    ← Nat.add_assoc]
  rfl

end Sys2Proof.Machine
end

