-- ==== Sys2Proof/Laws/Views.lean ====
section
/-! SUPPORT. The bits of the bytes the views encode. -/

namespace Sys2Proof.Machine

/-- The one bit that `bitAt` sets. -/
theorem getLsbD_bitAt (b : Bool) (n : Nat) {i : Nat} (h : i < 8) : (bitAt b n).getLsbD i = (b && decide (i = n)) := by
  unfold bitAt
  cases b
  · simp
  · by_cases hn : i = n
    · subst hn; simp [h]
    · simp [h, hn]; omega

theorem getLsbD_buttonsEncode (c : Cfg) (v : ButtonsView) {i : Nat} (h : i < 8) :
    (buttonsEncode c v).getLsbD i =
      ((v.p1Start && decide (i = c.btnPos.p1Start)) || (v.p2Start && decide (i = c.btnPos.p2Start))
        || (v.vefx && decide (i = c.btnPos.vefx)) || (v.effect && decide (i = c.btnPos.effect))
        || (v.creditCounter && decide (i = c.btnPos.creditCounter))) := by
  simp only [buttonsEncode, BitVec.getLsbD_or, getLsbD_bitAt _ _ h]

end Sys2Proof.Machine
end

