-- ==== Sys2Proof/Tests/Slice0.lean ====
section
/-! SUPPORT. Tests: ill-formed operations that WellFormed refuses, frame words written out bit by bit from the table of rule
R40, single operations against the vectors of spec/95_test_vectors.md (named V-... in the comments), and for every
statement with hypotheses a witness that meets them. -/

namespace Sys2Proof.Tests

open Sys2Proof.Machine

/-! ### Helpers -/

/-- The state after reset under the vector configuration, with the DataIn samples of one transfer scripted: the
acknowledgment, then the bits of `b` from bit 7 down (the draw list `ack; b`). -/
def drawing (ack : Bool) (b : Byte) : State :=
  { State.reset with
    dataIn := { script := ack :: ([7, 6, 5, 4, 3, 2, 1, 0] : List Nat).map fun i => b.getLsbD i, drawn := 0 } }

/-- `s` under another configuration. -/
def under (c : Cfg) (s : State) : State := { s with cfg := c }

/-- `cfgB` of spec/95_test_vectors.md program P3. -/
def cfgB : Cfg := { Config.vectorCfg with addrMode := .and7, invertTx := true }

/-- The vector configuration with the button positions 7, 6, 5, 4, 3 and the neon bit at 7. -/
def cfgHigh : Cfg :=
  { Config.vectorCfg with
    btnPos := { p1Start := 7, p2Start := 6, vefx := 5, effect := 4, creditCounter := 3 }, neonBit := 7 }

/-- Whether `i` completes from `s` in a state with the property `p`. -/
def after (i : Instr) (s : State) (p : State → Bool) : Bool :=
  match exec i s with
  | .next t => p t
  | .fault _ => false
  | .refused _ => false

/-- Whether `i` completes from `s` and hands `r` back. -/
def answers (i : Instr) (s : State) (r : Reply) : Bool := after i s fun t => decide (t.reply = r)

/-- The state after reset with a mode of one's choice. -/
def inMode (m : Mode) : State := { State.reset with mode := m }

/-! ### WellFormed: one ill-formed term for each check -/

theorem test_wf_transfer_address : (Instr.transfer 256 0).wellFormed = false := by decide
theorem test_wf_transfer_data : (Instr.transfer 0 256).wellFormed = false := by decide
theorem test_wf_read_output : (Instr.readReg (.output .neon)).wellFormed = false := by decide
theorem test_wf_write_input : (Instr.writeReg (.input .buttons) 0).wellFormed = false := by decide
theorem test_wf_write_value : (Instr.writeReg (.output .neon) 256).wellFormed = false := by decide
theorem test_wf_seg_code : (Instr.seg 0 256).wellFormed = false := by decide
theorem test_wf_slider_first : (Instr.encodeSlider 16 0).wellFormed = false := by decide
theorem test_wf_slider_second : (Instr.encodeSlider 0 16).wellFormed = false := by decide
theorem test_wf_unassigned_is_not_assigned : (Instr.frameUnassigned 0x8F 0).wellFormed = false := by decide
theorem test_wf_peek_unlisted : (Instr.peek .lastScroll).wellFormed = false := by decide
theorem test_wf_peek_mispaired : (Instr.peek (.named (.input .buttons) .first)).wellFormed = false := by decide
theorem test_wf_peek_output : (Instr.peek (.named (.output .neon) .neonOn)).wellFormed = false := by decide
theorem test_wf_reset_time : (Instr.reset Config.vectorCfg (2 ^ 32)).wellFormed = false := by decide
theorem test_wf_reset_valid : (Instr.reset Config.vectorCfg 1000).wellFormed = true := by decide
theorem test_wf_cfg_text_len_zero : (Instr.reset { Config.vectorCfg with textLen := 0 } 0).wellFormed = false := by decide
theorem test_wf_cfg_text_len_65 : (Instr.reset { Config.vectorCfg with textLen := 65 } 0).wellFormed = false := by decide
theorem test_wf_cfg_text_size : (Instr.reset { Config.vectorCfg with text := [] } 0).wellFormed = false := by decide
theorem test_wf_cfg_buttons_equal :
    (Instr.reset { Config.vectorCfg with btnPos := { p1Start := 0, p2Start := 0, vefx := 1, effect := 2, creditCounter := 3 } }
      0).wellFormed = false := by decide
theorem test_wf_cfg_button_range :
    (Instr.reset { Config.vectorCfg with btnPos := { p1Start := 8, p2Start := 1, vefx := 2, effect := 3, creditCounter := 4 } }
      0).wellFormed = false := by decide
theorem test_wf_cfg_neon_bit : (Instr.reset { Config.vectorCfg with neonBit := 8 } 0).wellFormed = false := by decide
theorem test_wf_cfg_time_width :
    (Instr.reset { Config.vectorCfg with timeW := 0, scrollInterval := 0, animInterval := 0 } 0).wellFormed = false := by
  decide
theorem test_wf_cfg_scroll_interval :
    (Instr.reset { Config.vectorCfg with scrollInterval := 2 ^ 32 } 0).wellFormed = false := by decide
theorem test_wf_cfg_anim_interval :
    (Instr.reset { Config.vectorCfg with animInterval := 2 ^ 32 } 0).wellFormed = false := by decide

/-! ### Frame words written out from rules R40 and R48 -/

theorem test_decode_frameButtons : decodeFrame 0b0000011100000000 = .frameButtons 0x00 := by decide
theorem test_decode_frameTurntableP1 : decodeFrame 0b0000111110000000 = .frameTurntableP1 0x80 := by decide
theorem test_decode_frameTurntableP2 : decodeFrame 0b0001011101111111 = .frameTurntableP2 0x7F := by decide
theorem test_decode_frameVolumePair12 : decodeFrame 0b0001111110100101 = .frameVolumePair12 0xA5 := by decide
theorem test_decode_frameVolumePair34 : decodeFrame 0b0010011100111100 = .frameVolumePair34 0x3C := by decide
theorem test_decode_frameVolume5 : decodeFrame 0b0010111100001111 = .frameVolume5 0x0F := by decide
theorem test_decode_frameButtonLamps : decodeFrame 0b0011011111111111 = .frameButtonLamps 0xFF := by decide
theorem test_decode_frameSixteenSegment1 : decodeFrame 0b0011111101001000 = .frameSixteenSegment1 0x48 := by decide
theorem test_decode_frameSixteenSegment2 : decodeFrame 0b0100011101000101 = .frameSixteenSegment2 0x45 := by decide
theorem test_decode_frameSixteenSegment3 : decodeFrame 0b0100111101001100 = .frameSixteenSegment3 0x4C := by decide
theorem test_decode_frameSixteenSegment4 : decodeFrame 0b0101011101001100 = .frameSixteenSegment4 0x4C := by decide
theorem test_decode_frameSixteenSegment5 : decodeFrame 0b0101111101001111 = .frameSixteenSegment5 0x4F := by decide
theorem test_decode_frameSixteenSegment6 : decodeFrame 0b0110011100100000 = .frameSixteenSegment6 0x20 := by decide
theorem test_decode_frameSixteenSegment7 : decodeFrame 0b0110111100101101 = .frameSixteenSegment7 0x2D := by decide
theorem test_decode_frameSixteenSegment8 : decodeFrame 0b0111011100100000 = .frameSixteenSegment8 0x20 := by decide
theorem test_decode_frameSixteenSegment9 : decodeFrame 0b0111111101010111 = .frameSixteenSegment9 0x57 := by decide
theorem test_decode_frameSpotlights : decodeFrame 0b1000011100010000 = .frameSpotlights 0x10 := by decide
theorem test_decode_frameNeon : decodeFrame 0b1000111100000001 = .frameNeon 0x01 := by decide
theorem test_decode_frameUnassigned_id : decodeFrame 0b1001011100000000 = .frameUnassigned 0x97 0x00 := by decide
theorem test_decode_frameUnassigned_low_bits : decodeFrame 0b1000011011111111 = .frameUnassigned 0x86 0xFF := by decide
theorem test_decode_bytes : decode [0b10000111#8, 0b00010000#8] = .instr (.frameSpotlights 0x10) := by decide
theorem test_decode_truncated : decode [0x87#8] = .rejected .truncated := by decide
theorem test_decode_trailing : decode [0x87#8, 0x10#8, 0x00#8] = .rejected .trailing := by decide
theorem test_encode_spotlights : encode (.frameSpotlights 0x10) = some 0b1000011100010000 := by decide
theorem test_encode_tick : encode .tick = none := by decide
theorem test_table_word : decodeTableWord 16 0x1FA5 = some (.frameVolumePair12 0xA5) := by decide

/-! ### The transport (vectors V-T1 to V-T7) -/

theorem test_writeBit_events : after (.writeBit true) State.reset (fun t =>
    decide (t.events.take 5 = [.wait 1, .clk true, .wait 1, .dout true, .clk false])) = true := by decide
theorem test_xferBit_sample : answers (.xferBit false) (drawing true 0) (.bit true) = true := by decide
theorem test_readBit_keeps_dout : after .readBit (drawing true 0) (fun t =>
    decide (t.dout = .driven false ∧ t.reply = .bit true)) = true := by decide
theorem test_sampleAck_no_clock : after .sampleAck (drawing false 0) (fun t =>
    decide (t.events.take 2 = [.sample false, .dout false])) = true := by decide

/-! ### Transfers (V-X1, V-SRC-6, V-SRC-8, V-X12 to V-X14) -/

theorem test_transfer_result : answers (.transfer 0x87 0x10) (drawing false 0x01) (.rxAck 0x01 true) = true := by
  decide +kernel
theorem test_transfer_length : after (.transfer 0x87 0x10) (drawing false 0x01)
    (fun t => decide (t.trace.length = 94)) = true := by decide +kernel
theorem test_transfer_absent_ack : answers (.transfer 0x1F 0x00) (drawing true 0xC3) (.rxAck 0xC3 false) = true := by
  decide +kernel
theorem test_transfer_lsb_first :
    answers (.transfer 0x1F 0x00) (under { Config.vectorCfg with rxOrder := .lsbFirst } (drawing false 0x01))
      (.rxAck 0x80 true) = true := by decide +kernel
theorem test_transfer_and7_inverted : after (.transfer 0x87 0x10) (under cfgB (drawing true 0x3C))
    (fun t => decide (t.txAddr = 0x07 ∧ t.txData = 0xEF)) = true := by decide +kernel
theorem test_transfer_range : answers (.transfer 0x100 0x00) State.reset (.refused .argRange) = true := by decide
theorem test_transfer_faulted : answers (.transfer 0x07 0x00) (inMode .faulted) (.refused .notReady) = true := by decide

/-! ### Register operations (V-R1 to V-R4, V-W1 to V-W6) -/

theorem test_readReg_snapshot : after (.readReg (.input .volumePair12)) (drawing false 0xA5)
    (fun t => decide (t.snapVol12 = some 0xA5 ∧ t.txAddr = 0x1F)) = true := by decide +kernel
theorem test_readReg_direction : answers (.readReg (.output .spotlights)) State.reset (.refused .direction) = true := by
  decide
theorem test_writeReg_wire : after (.writeReg (.output .spotlights) 0x80)
    (under { Config.vectorCfg with invertTx := true } (drawing false 0x00))
    (fun t => decide (t.txAddr = 0x87 ∧ t.txData = 0x7F)) = true := by decide +kernel
theorem test_writeReg_range : answers (.writeReg (.output .neon) 0x1FF) State.reset (.refused .argRange) = true := by decide

/-! ### Frames as operations -/

theorem test_frame_reads : after (.frameVolumePair12 0x00) (drawing false 0xA5)
    (fun t => decide (t.snapVol12 = some 0xA5)) = true := by decide +kernel
theorem test_frame_other_byte_snapshots_nothing : after (.frameVolumePair12 0x01) (drawing false 0xA5)
    (fun t => decide (t.snapVol12 = none ∧ t.lastRx = some 0xA5)) = true := by decide +kernel
theorem test_frame_writes : after (.frameNeon 0x01) (drawing false 0x00)
    (fun t => decide (t.txAddr = 0x8F ∧ t.txData = 0x01)) = true := by decide +kernel
theorem test_frame_unassigned : after (.frameUnassigned 0x97 0x55) (drawing false 0x00)
    (fun t => decide (t.txAddr = 0x97 ∧ t.txData = 0x55)) = true := by decide +kernel

/-! ### The map and the views (V-V1 to V-V17) -/

theorem test_addrOf : answers (.addrOf (.output (.segment 8))) State.reset (.byte 0x7F) = true := by decide
theorem test_regOf : answers (.regOf 0x8F) State.reset (.register (some (.output .neon))) = true := by decide
theorem test_regOf_none : answers (.regOf 0x97) State.reset (.register none) = true := by decide
theorem test_decodeRaw : answers (.decodeRaw 0x7F) State.reset (.byte 0x7F) = true := by decide
theorem test_encodeRaw : answers (.encodeRaw 0xFF) State.reset (.byte 0xFF) = true := by decide
theorem test_decodeSlider : answers (.decodeSlider 0x5A) State.reset (.slider { first := 10, second := 5 }) = true := by
  decide
theorem test_encodeSlider : answers (.encodeSlider 0 15) State.reset (.byte 0xF0) = true := by decide
theorem test_encodeSlider_range : answers (.encodeSlider 16 0) State.reset (.refused .argRange) = true := by decide
theorem test_decodeButtons : answers (.decodeButtons 0xE5) State.reset
    (.buttons { p1Start := true, p2Start := false, vefx := true, effect := false, creditCounter := false }) = true := by
  decide
theorem test_encodeButtons_high : answers
    (.encodeButtons { p1Start := true, p2Start := false, vefx := false, effect := false, creditCounter := true })
    (under cfgHigh State.reset) (.byte 0x88) = true := by decide
theorem test_decodeSpot : after (.decodeSpot 0x81) State.reset
    (fun t => decide (t.reply = .spot { onlyLamp 3 with lamp7 := true })) = true := by decide
theorem test_encodeSpot : answers
    (.encodeSpot { onlyLamp 0 with lamp1 := true, lamp2 := true, lamp3 := true }) State.reset (.byte 0xF0) = true := by
  decide
theorem test_decodeNeon : answers (.decodeNeon 0x80) (under cfgHigh State.reset) (.bit true) = true := by decide
theorem test_encodeNeon : answers (.encodeNeon true) (under cfgHigh State.reset) (.byte 0x80) = true := by decide

/-! ### The schedulers (V-S2, V-S5, V-C1, V-C3, V-D4, V-N1, V-N2) -/

theorem test_scrollStep_at_interval : after (.scrollStep 100) State.reset
    (fun t => decide (t.cursor = 1 ∧ t.lastScroll = 100)) = true := by decide
theorem test_scrollStep_time_wraps : after (.scrollStep 0x24) { State.reset with cursor := 3, lastScroll := 0xFFFFFFC0 }
    (fun t => decide (t.cursor = 4 ∧ t.lastScroll = 0x24)) = true := by decide
theorem test_chaseStep_at_interval : after (.chaseStep 50) State.reset
    (fun t => decide (t.animIdx = 0 ∧ t.lastAnim = 0)) = true := by decide
theorem test_chaseStep_wraps : after (.chaseStep 151) { State.reset with animIdx := 7, lastAnim := 100 }
    (fun t => decide (t.animIdx = 0 ∧ t.lastAnim = 151)) = true := by decide
theorem test_render_last : answers (.render 0) { State.reset with cursor := 14 } (.byte 0x21) = true := by decide
theorem test_render_blank : answers (.render 1) { State.reset with cursor := 14 } (.byte 0x20) = true := by decide
theorem test_spotByte : answers (.spotByte 4) State.reset (.byte 0x08) = true := by decide
theorem test_neonByte : answers (.neonByte 2) (under { Config.vectorCfg with neonFn := 0b01010101 } State.reset)
    (.byte 0x01) = true := by decide

/-! ### The tick (V-K3, V-K5; the 17 frames are program P1's) -/

/-- The state after reset with every DataIn sample of a tick scripted at `v` and the two time values `ta` and `tt`. -/
def ticking (v : Bool) (ta tt : Nat) : State :=
  { State.reset with
    dataIn := { script := List.replicate 153 v, drawn := 0 }, time := { script := [ta, tt], drawn := 0 } }

theorem test_tick_absent_acks : after .tick (ticking true 10 10)
    (fun t => decide (t.snapVol5 = some 0xFF ∧ t.lastAck = some false)) = true := by decide +kernel
theorem test_tick_advances : after .tick { ticking false 51 100 with animIdx := 3 }
    (fun t => decide (t.animIdx = 4 ∧ t.cursor = 1)) = true := by decide +kernel

/-! ### Reset, reading state back, faults (V-E1 to V-E10) -/

theorem test_reset_ready : after (.reset Config.vectorCfg 1000) State.powerUp
    (fun t => decide (t.mode = .ready ∧ t.lastScroll = 1000)) = true := by decide
theorem test_reset_wide_time : answers (.reset Config.vectorCfg (2 ^ 32)) State.powerUp (.refused .argRange) = true := by decide
theorem test_peek_unlisted_faulted : answers (.peek .lastScroll) (inMode .faulted) (.refused .notReady) = true := by decide
theorem test_peek_first : answers (.peek (.named (.input .volumePair12) .first))
    { State.reset with snapVol12 := some 0xA5 } (.nibble 5) = true := by decide

/-! ### The pseudo-instructions (program P3, without its inversion) -/

theorem test_lamp : after (.lamp 3) (drawing false 0x00) (fun t => decide (t.txAddr = 0x87 ∧ t.txData = 0x80)) = true := by
  decide +kernel
theorem test_seg : after (.seg 0 0x52) (drawing false 0x00) (fun t => decide (t.txAddr = 0x3F ∧ t.txData = 0x52)) = true := by
  decide +kernel
theorem test_neon : after (.neon true) (under cfgHigh (drawing false 0x00))
    (fun t => decide (t.txAddr = 0x8F ∧ t.txData = 0x80)) = true := by decide +kernel

/-! ### Steps -/

theorem test_step_runs_frame : (match step ((drawing false 0xA5).withFetchWord 16 0x1F00) with
    | .next t => decide (t.snapVol12 = some 0xA5 ∧ t.requests = [])
    | .fault _ => false
    | .refused _ => false) = true := by decide +kernel
theorem test_step_idle : (match step State.reset with
    | .next t => decide (t = State.reset)
    | .fault _ => false
    | .refused _ => false) = true := by decide

/-! ### Witnesses: for every statement with hypotheses, a state and operands that meet them -/

theorem witness_EveryFrameDecodesBack :
    (Instr.frameUnassigned 0x97 0x00).wellFormed = true ∧ encode (.frameUnassigned 0x97 0x00) = some 0x9700 := by decide
theorem witness_EveryFrameWordIsOneFrame :
    ([0x87#8] : List Byte).length < 2 ∧ 2 < ([0x87#8, 0x10#8, 0x00#8] : List Byte).length := by decide
theorem witness_AddrOfGivesTableAddress :
    (RegName.input .buttons, 0x07#8) ∈ addressMap ∧ (RegName.output .neon, 0x8F#8) ∈ addressMap := by decide
theorem witness_RegOfSelectsByAddress : cfgB.addrMode = .and7 := by decide
theorem witness_StepRunsFrameWord :
    ({ State.reset with requests := [.frame 0x0700] } : State).requests = .frame 0x0700 :: [] := by decide
theorem witness_StepRunsHostRequest_reset :
    ({ State.reset with requests := [.reset cfgB 7] } : State).requests = .reset cfgB 7 :: [] := by decide
theorem witness_StepRunsHostRequest_transfer :
    ({ State.reset with requests := [.transfer 255 256] } : State).requests = .transfer 255 256 :: [] := by decide
theorem witness_StepRunsHostRequest_readReg :
    ({ State.reset with requests := [.readReg (.input .volume5)] } : State).requests
      = .readReg (.input .volume5) :: [] := by decide
theorem witness_StepRunsHostRequest_writeReg :
    ({ State.reset with requests := [.writeReg (.output .neon) 1] } : State).requests
      = .writeReg (.output .neon) 1 :: [] := by decide
theorem witness_StepRunsHostRequest_tick :
    ({ State.reset with requests := [.tick] } : State).requests = .tick :: [] := by decide
theorem witness_StepRunsHostRequest_peek :
    ({ State.reset with requests := [.peek .mode] } : State).requests = .peek .mode :: [] := by decide
theorem witness_StepRunsHostRequest_lamp :
    ({ State.reset with requests := [.lamp 7] } : State).requests = .lamp 7 :: [] := by decide
theorem witness_StepRunsHostRequest_seg :
    ({ State.reset with requests := [.seg 8 0x21] } : State).requests = .seg 8 0x21 :: [] := by decide
theorem witness_StepRunsHostRequest_neon :
    ({ State.reset with requests := [.neon true] } : State).requests = .neon true :: [] := by decide
theorem witness_StepRunsHostRequest_none : State.reset.requests = [] := by decide

/-- The widest time and the first one too wide. -/
theorem witness_ResetStartsEngine : State.powerUp.mode ≠ .busy ∧ 2 ^ 32 - 1 < 2 ^ Config.vectorCfg.timeW
    ∧ cfgValid Config.vectorCfg = true := by decide
theorem witness_ResetRejectsInvalidCfg : State.powerUp.mode ≠ .busy
    ∧ 2 ^ 32 - 1 < 2 ^ ({ Config.vectorCfg with textLen := 65 } : Cfg).timeW
    ∧ cfgValid { Config.vectorCfg with textLen := 65 } = false := by decide
theorem witness_ResetRejectsInvalidCfg_time :
    State.powerUp.mode ≠ .busy ∧ 2 ^ Config.vectorCfg.timeW ≤ 2 ^ 32 := by decide
theorem witness_ResetRejectsInvalidCfg_busy : (inMode .busy).mode = .busy := by decide
/-- Both ends of the legal text lengths and the values just outside them. -/
theorem witness_ResetAcceptsExactlyValidCfg : State.powerUp.mode ≠ .busy ∧ 0 < 2 ^ Config.vectorCfg.timeW
    ∧ cfgValid { Config.vectorCfg with textLen := 1 } = true ∧ cfgValid { Config.vectorCfg with textLen := 64 } = true
    ∧ cfgValid { Config.vectorCfg with textLen := 0 } = false ∧ cfgValid { Config.vectorCfg with textLen := 65 } = false := by
  decide

theorem witness_TransferCompletes : State.reset.mode = .ready ∧ 0xFF ≤ 0xFF ∧ 0 ≤ 0xFF := by decide
theorem witness_TransferTraceHas91Events : State.reset.mode = .ready := by decide
theorem witness_AbsentAckChangesOnlyTheFlag : (drawing true 0x00).mode = .ready := by decide
theorem witness_WireAddressFollowsAddrMode : State.reset.mode = .ready ∧ State.reset.cfg.addrMode = .or7
    ∧ (under cfgB State.reset).mode = .ready ∧ (under cfgB State.reset).cfg.addrMode = .and7
    ∧ (RegName.output .spotlights, 0x87#8) ∈ addressMap := by decide
theorem witness_WireDataFollowsPolicy :
    (under cfgB State.reset).mode = .ready ∧ (under cfgB State.reset).cfg.invertTx = true := by decide
theorem witness_ReceivedByteFromSamples : State.reset.mode = .ready ∧ State.reset.cfg.rxOrder = .msbFirst
    ∧ (under { Config.vectorCfg with rxOrder := .lsbFirst } State.reset).mode = .ready
    ∧ (under { Config.vectorCfg with rxOrder := .lsbFirst } State.reset).cfg.rxOrder = .lsbFirst := by decide
theorem witness_ReadRegReadsAndSnapshots :
    State.reset.mode = .ready ∧ (RegName.input .volume5, 0x2F#8) ∈ addressMap := by decide
theorem witness_WriteRegSendsOneFrame :
    State.reset.mode = .ready ∧ (RegName.output .buttonLamps, 0x37#8) ∈ addressMap ∧ 0xFF ≤ 0xFF := by decide
theorem witness_BadArgumentsRefused : State.reset.mode = .ready ∧ 0xFF < 0x100 := by decide
theorem witness_NotReadyRefuses : (inMode .faulted).mode ≠ .ready ∧ Instr.frameNeon 0x01 = decodeFrame 0x8F01 := by decide

theorem witness_InputFrameReadsOrTransfers : (InputReg.volume5, 0x2F#8, Instr.frameVolume5) ∈ inputFrames :=
  .tail _ (.tail _ (.tail _ (.tail _ (.tail _ (.head _)))))
theorem witness_InputFrameReadsOrTransfers_state : State.reset.mode = .ready ∧ 0x00#8 = wireData State.reset.cfg 0x00
    ∧ 0x01#8 ≠ wireData State.reset.cfg 0x00 := by decide
theorem witness_OutputFrameWrites : (OutputReg.buttonLamps, 0x37#8, Instr.frameButtonLamps) ∈ outputFrames := .head _
theorem witness_OutputFrameWrites_state : State.reset.mode = .ready := by decide
theorem witness_UnassignedFrameTransfers : State.reset.mode = .ready := by decide
theorem witness_FrameWordGoesOnTheWire :
    State.reset.mode = .ready ∧ wireAddr State.reset.cfg (frameAddr 0x8780) = frameAddr 0x8780 := by decide
theorem witness_FrameWordGoesOnTheWire_and7 :
    (under cfgB State.reset).mode = .ready ∧ wireAddr cfgB (frameAddr 0x0500) = frameAddr 0x0500 := by decide

theorem witness_ViewsRoundTrip : cfgValid State.reset.cfg = true := by decide
theorem witness_TickRunsThePoll : State.reset.mode = .ready := by decide
theorem witness_TickTraceIsSeventeenFrames : (ticking true 10 10).mode = .ready := by decide

theorem witness_CursorHasPeriodTextLen_reset :
    State.reset.mode ≠ .busy ∧ 0 < 2 ^ State.reset.cfg.timeW ∧ cfgValid State.reset.cfg = true := by decide
theorem witness_CursorHasPeriodTextLen_step :
    ({ State.reset with cursor := 14 } : State).cursor < State.reset.cfg.textLen := by decide
theorem witness_CursorHasPeriodTextLen_run : State.reset.cursor = 0 ∧ 1 ≤ State.reset.cfg.textLen
    ∧ everyScrollAdvances [100, 200, 300] State.reset :=
  ⟨by decide, by decide, by decide, by decide, by decide, trivial⟩
theorem witness_RenderShowsTheWindow_text : ({ State.reset with cursor := 14 } : State).cursor + (0 : Fin 9) < 64
    ∧ ({ State.reset with cursor := 14 } : State).cursor + (0 : Fin 9) < State.reset.cfg.textLen := by decide
theorem witness_RenderShowsTheWindow_blank :
    State.reset.cfg.textLen ≤ ({ State.reset with cursor := 14 } : State).cursor + (1 : Fin 9) := by decide
theorem witness_RenderShowsTheWindow_short :
    (under { Config.vectorCfg with text := [] } State.reset).cfg.text.length ≤ State.reset.cursor + (0 : Fin 9)
      ∧ State.reset.cursor + (0 : Fin 9) < (under { Config.vectorCfg with text := [] } State.reset).cfg.textLen := by decide
theorem witness_LampIndexHasPeriodEight : everyChaseAdvances [51, 102, 153] State.reset :=
  ⟨by decide, by decide, by decide, trivial⟩
/-- A value just below the modulus and one past it. -/
theorem witness_ElapsedIsTrueElapsed : (250 : Nat) ≤ 260 ∧ 260 - 250 < 2 ^ Config.vectorCfg.timeW
    ∧ 0 ≤ 2 ^ 32 - 1 ∧ (2 ^ 32 - 1) - 0 < 2 ^ Config.vectorCfg.timeW := by decide

/-- The state after reset with values in every field that `PEEK` can read. -/
def written : State :=
  { State.reset with
    snapButtons := some 0x15, snapTt1 := some 0x80, snapTt2 := some 0x7F, snapVol12 := some 0xA5, snapVol34 := some 0x3C
    snapVol5 := some 0x0F, lastRx := some 0x0F, lastAck := some true }

theorem witness_PeekReadsWrittenFields : written.mode = .ready ∧ written.snapshot .turntableP1 = some 0x80
    ∧ written.snapshot .volume5 = some 0x0F ∧ written.snapshot .buttons = some 0x15 ∧ written.lastRx = some 0x0F
    ∧ written.lastAck = some true := by decide
theorem witness_PeekReadsWrittenFields_mode : (inMode .faulted).mode ≠ .busy := by decide
theorem witness_PeekUnwrittenFaults : State.reset.mode = .ready ∧ State.reset.snapshot .volume5 = none
    ∧ State.reset.lastRx = none ∧ State.reset.lastAck = none ∧ fieldView .first = viewOf (.input .volume5) := by decide
theorem witness_PeekRefusals_pairing : fieldView .first ≠ viewOf (.input .buttons) := by decide
theorem witness_PeekRefusals_busy : (inMode .busy).mode = .busy := by decide
theorem witness_PeekRefusals_unlisted : PeekField.lastScroll ∈ ([.lastScroll, .cfg] : List PeekField)
    ∧ State.reset.mode = .ready ∧ fieldView .neonOn = viewOf (.output .neon) := by decide
theorem witness_PeekRefusals_not_ready :
    (inMode .faulted).mode ≠ .ready ∧ PeekField.lastScroll ≠ .mode ∧ PeekField.lastScroll ≠ .fault := by decide
theorem witness_PseudoInstructionsWrite : State.reset.mode = .ready
    ∧ (RegName.output (.segment 8), 0x7F#8) ∈ addressMap ∧ 0xFF ≤ 0xFF := by decide

/-- The state after reset with a tick requested has the invariant, and the step takes it to a next state. -/
theorem witness_StepKeepsInvariant_step :
    ∃ t, step { ticking false 10 10 with requests := [.tick] } = .next t := ⟨_, rfl⟩
theorem witness_StepKeepsInvariant_inv : ({ ticking false 10 10 with requests := [.tick] } : State).Inv where
  notBusy := by decide
  phaseIdle := rfl
  seqIdle := rfl
  lines := .inl ⟨rfl, rfl, by decide⟩
  unconfigured h := by cases h
  ready _ := rfl
  faulted h := by cases h
  started _ := by decide
  results := rfl
  lastScroll := by decide
  lastAnim := by decide
theorem witness_OnlyResetChangesCfg : ∃ t, exec (.reset cfgB 5) State.reset = .next t := ⟨_, rfl⟩
/-- The refused branch: `BUSY`, and the first time too wide, with a valid and with an invalid record. -/
theorem witness_OnlyResetChangesCfg_refused :
    (∃ t, exec (.reset cfgB 5) (inMode .busy) = .next t) ∧ (inMode .busy).mode = .busy
    ∧ (∃ t, exec (.reset cfgB (2 ^ 32)) State.reset = .next t) ∧ 2 ^ cfgB.timeW ≤ 2 ^ 32
    ∧ ∃ t, exec (.reset { cfgB with textLen := 0 } (2 ^ 32)) State.reset = .next t ∧ t.reply = .refused .argRange :=
  ⟨⟨_, rfl⟩, rfl, ⟨_, rfl⟩, by decide, _, rfl, by decide⟩
theorem witness_OnlyResetLeavesFaulted : (inMode .faulted).mode = .faulted ∧ (inMode .unconfigured).mode = .unconfigured
    ∧ ∃ t, exec (.peek .fault) (inMode .faulted) = .next t := ⟨rfl, rfl, _, rfl⟩
theorem witness_OnlyResetLeavesFaulted_step : ∃ t, step { inMode .faulted with requests := [.tick] } = .next t := ⟨_, rfl⟩
theorem witness_RefusalChangesNothing :
    ∃ t, exec (.readReg (.output .neon)) State.reset = .next t ∧ t.reply = .refused .direction := ⟨_, rfl, rfl⟩
theorem witness_FaultsOnlyByResetAndPeek_reset : ∃ t,
    exec (.reset { Config.vectorCfg with textLen := 65 } 0) State.reset = .next t ∧ t.reply = .faulted .config :=
  ⟨_, rfl, rfl⟩
theorem witness_FaultsOnlyByResetAndPeek_peek :
    ∃ t, exec (.peek .lastAck) State.reset = .next t ∧ t.reply = .faulted .unwritten := ⟨_, rfl, rfl⟩
theorem witness_SnapshotsWrittenOnlyByReads : ∃ t, exec (.reset Config.vectorCfg 0) written = .next t
    ∧ t.snapshot .buttons ≠ written.snapshot .buttons := ⟨_, rfl, by decide⟩
theorem witness_SchedulerStateHasOneWriter_scroll :
    ∃ t, exec (.scrollStep 100) State.reset = .next t ∧ t.cursor ≠ State.reset.cursor := ⟨_, rfl, by decide⟩
theorem witness_SchedulerStateHasOneWriter_chase :
    ∃ t, exec (.chaseStep 51) State.reset = .next t ∧ t.animIdx ≠ State.reset.animIdx := ⟨_, rfl, by decide⟩
theorem witness_TraceOnlyGrows : ∃ t, exec .sampleAck State.reset = .next t := ⟨_, rfl⟩

end Sys2Proof.Tests
end

section
/-! The scope chapter (spec/00_scope.md): what `cfgValid` tests, field by field (rule R9), and what a reset outside
`BUSY` does with a valid and with an invalid record (rules R122, R135). -/

namespace Sys2Proof.Machine

/-! ### What a valid `Cfg` is -/

theorem forall_mem_btnIndices_le_iff (p : BtnPos) (n : Nat) :
    (∀ i ∈ btnIndices p, i ≤ n) ↔
      p.p1Start ≤ n ∧ p.p2Start ≤ n ∧ p.vefx ≤ n ∧ p.effect ≤ n ∧ p.creditCounter ≤ n := by
  simp [btnIndices]

theorem btnIndices_nodup_iff (p : BtnPos) :
    (btnIndices p).Nodup ↔
      p.p1Start ≠ p.p2Start ∧ p.p1Start ≠ p.vefx ∧ p.p1Start ≠ p.effect ∧ p.p1Start ≠ p.creditCounter
        ∧ p.p2Start ≠ p.vefx ∧ p.p2Start ≠ p.effect ∧ p.p2Start ≠ p.creditCounter
        ∧ p.vefx ≠ p.effect ∧ p.vefx ≠ p.creditCounter ∧ p.effect ≠ p.creditCounter := by
  simp [btnIndices, and_assoc]

/-- Rule R9 as a proposition, grouped as its text is: the text's length, the types' ranges, and the indices' range and
distinctness. -/
theorem cfgValid_iff (c : Cfg) :
    cfgValid c = true ↔
      (1 ≤ c.textLen ∧ c.textLen ≤ 64)
        ∧ (c.text.length = 64 ∧ c.neonBit ≤ 7 ∧ 1 ≤ c.timeW
          ∧ c.scrollInterval < 2 ^ c.timeW ∧ c.animInterval < 2 ^ c.timeW)
        ∧ (∀ i ∈ btnIndices c.btnPos, i ≤ 7) ∧ (btnIndices c.btnPos).Nodup := by
  simp only [cfgValid, Bool.and_eq_true, decide_eq_true_eq, List.all_eq_true]
  tauto

/-! ### A reset outside `BUSY`, at a time of the record's width -/

theorem execReset_of_valid {cfg : Cfg} {t0 : Nat} {s : State} (hb : s.mode ≠ .busy) (ht : t0 < timeModulus cfg)
    (hv : cfgValid cfg = true) :
    execReset cfg t0 s = .next { resetCore cfg t0 s with mode := .ready, reply := .done } := by
  simp only [execReset, if_neg hb, if_neg (Nat.not_le.mpr ht), if_pos hv, finish_eq]

theorem execReset_of_invalid {cfg : Cfg} {t0 : Nat} {s : State} (hb : s.mode ≠ .busy) (ht : t0 < timeModulus cfg)
    (hv : ¬ cfgValid cfg = true) :
    execReset cfg t0 s = .next
      { resetCore cfg t0 s with fault := some .config, mode := .unconfigured, reply := .faulted .config } := by
  simp only [execReset, if_neg hb, if_neg (Nat.not_le.mpr ht), if_neg hv, finish_eq]

/-- Settles O11: the condition of the statement is `cfgValid_iff` with the indices' two clauses written out, and each branch
is the reset's equation for it. -/
theorem resetAcceptsExactlyValidCfg : Obligations.ResetAcceptsExactlyValidCfg := by
  intro cfg t0 s hb ht
  have hiff := cfgValid_iff cfg
  rw [forall_mem_btnIndices_le_iff, btnIndices_nodup_iff] at hiff
  by_cases hv : cfgValid cfg = true
  · refine ⟨_, execReset_of_valid hb ht hv, rfl, ?_⟩
    rw [if_pos (hiff.mp hv)]
    exact ⟨rfl, rfl⟩
  · refine ⟨_, execReset_of_invalid hb ht hv, rfl, ?_⟩
    rw [if_neg (mt hiff.mpr hv)]
    exact ⟨rfl, rfl⟩

end Sys2Proof.Machine
end

section
/-! The encoding chapter (spec/30_encoding.md): the wire address and the wire data byte that a transfer shifts out, and the
byte it assembles from its samples (rules R51 to R54), each read off the trace or the result that `TRANSFER` leaves. -/

namespace Sys2Proof.Machine

/-! ### `TRANSFER` of two bytes, and the events it adds -/

theorem exec_transfer_ready {s : State} (a d : Byte) (h : s.mode = .ready) :
    exec (.transfer a.toNat d.toNat) s =
      .next { afterTransfer a d s with reply := .rxAck (s.rxFrom 0) (s.ackFrom 0) } := by
  have ready := transferRequest_ready h (Nat.le_of_lt_succ a.isLt) (Nat.le_of_lt_succ d.isLt)
  rwa [BitVec.ofNat_toNat, BitVec.setWidth_eq, BitVec.ofNat_toNat, BitVec.setWidth_eq] at ready

theorem drop_trace_afterTransfer (a d : Byte) (s : State) (r : Reply) :
    ({ afterTransfer a d s with reply := r } : State).trace.drop s.trace.length = s.framesFrom 0 a d := by
  simp [State.trace, afterTransfer]

theorem length_addrEvents (T : Nat) (A : Byte) : (addrEvents T A).length = 40 := rfl

theorem length_dataEvents (T : Nat) (W : Byte) (x : Nat → Bool) : (dataEvents T W x).length = 48 := rfl

/-- The data phase counted by bit, as rule R79 writes it, in place of by cell. -/
theorem dataEvents_eq_flatMap_bits (T : Nat) (W : Byte) (x : Nat → Bool) :
    dataEvents T W x = ([7, 6, 5, 4, 3, 2, 1, 0] : List Nat).flatMap fun i =>
      cellEvents T (W.getLsbD i) ++ [.sample (x (7 - i))] := rfl

/-- The 41 events before the acknowledgment sample are the Enable event and the address phase. -/
theorem take_transferEvents (T : Nat) (A W : Byte) (v : Bool) (x : Nat → Bool) :
    (transferEvents T A W v x).take 41 = [.en false] ++ addrEvents T A := by
  have before : ([Event.en false] ++ addrEvents T A).length = 41 := by
    simp only [List.length_append, List.length_singleton, length_addrEvents]
  rw [transferEvents, List.append_assoc, List.append_assoc, List.take_left' before]

/-- The 48 events after the acknowledgment sample are the data phase. -/
theorem take_drop_transferEvents (T : Nat) (A W : Byte) (v : Bool) (x : Nat → Bool) :
    ((transferEvents T A W v x).drop 42).take 48 = dataEvents T W x := by
  have before : ([Event.en false] ++ addrEvents T A ++ [Event.sample v]).length = 42 := by
    simp only [List.length_append, List.length_singleton, length_addrEvents]
  rw [transferEvents, List.append_assoc _ (dataEvents T W x), List.drop_left' before,
    List.take_left' (length_dataEvents T W x)]

theorem addr_phase_of_trace (a d : Byte) (s : State) (r : Reply) :
    (({ afterTransfer a d s with reply := r } : State).trace.drop s.trace.length).take 41
      = [.en false] ++ addrEvents s.cfg.bitDelay (wireAddr s.cfg a) := by
  rw [drop_trace_afterTransfer, State.framesFrom, take_transferEvents]

theorem data_phase_of_trace (a d : Byte) (s : State) (r : Reply) :
    ((({ afterTransfer a d s with reply := r } : State).trace.drop s.trace.length).drop 42).take 48
      = dataEvents s.cfg.bitDelay (wireData s.cfg d) fun k => s.sampleAt (1 + k) := by
  rw [drop_trace_afterTransfer, State.framesFrom, take_drop_transferEvents]

/-! ### The wire address (rules R51, R52) -/

theorem getLsbD_seven : ∀ i < 8, (0x07 : Byte).getLsbD i = decide (i < 3) := by decide

theorem getLsbD_wireAddr_or7 {c : Cfg} (hc : c.addrMode = .or7) (a : Byte) {i : Nat} (hi : i < 8) :
    (wireAddr c a).getLsbD i = (decide (i < 3) || a.getLsbD i) := by
  simp only [wireAddr, hc, BitVec.getLsbD_or]
  rw [getLsbD_seven i hi, Bool.or_comm]

theorem getLsbD_wireAddr_and7 {c : Cfg} (hc : c.addrMode = .and7) (a : Byte) {i : Nat} (hi : i < 8) :
    (wireAddr c a).getLsbD i = (decide (i < 3) && a.getLsbD i) := by
  simp only [wireAddr, hc, BitVec.getLsbD_and]
  rw [getLsbD_seven i hi, Bool.and_comm]

/-- `INVERT_TX` has no part in the wire address (rule R52). -/
theorem wireAddr_invertTx (c : Cfg) (b : Bool) (a : Byte) : wireAddr { c with invertTx := b } a = wireAddr c a := rfl

/-- Every table address has its three low bits set (rule R40), which both address modes rest on. -/
theorem low_bits_of_mem_addressMap : ∀ p ∈ addressMap, p.2 ||| 0x07 = p.2 ∧ p.2 &&& 0x07 = 0x07 := by decide

theorem wireAddr_of_mem_addressMap {c : Cfg} {r : RegName} {a : Byte} (h : (r, a) ∈ addressMap) :
    (c.addrMode = .or7 → wireAddr c a = a) ∧ (c.addrMode = .and7 → wireAddr c a = 0x07) := by
  obtain ⟨hor, hand⟩ := low_bits_of_mem_addressMap _ h
  refine ⟨fun hc => ?_, fun hc => ?_⟩
  · simpa only [wireAddr, hc] using hor
  · simpa only [wireAddr, hc] using hand

/-- Settles O20: the address phase is the first 41 events of the transfer, and neither they nor the wire address depend on
`INVERT_TX`. -/
theorem wireAddressFollowsAddrMode : Obligations.WireAddressFollowsAddrMode := by
  refine ⟨fun s a d h => ?_, fun c r a hmem => wireAddr_of_mem_addressMap hmem⟩
  refine ⟨_, wireAddr s.cfg a, exec_transfer_ready a d h, fun hc i hi => getLsbD_wireAddr_or7 hc a hi,
    fun hc i hi => getLsbD_wireAddr_and7 hc a hi, addr_phase_of_trace a d s _, fun b => ?_⟩
  have inverted := addr_phase_of_trace a d { s with cfg := { s.cfg with invertTx := b } }
  rw [wireAddr_invertTx] at inverted
  exact ⟨_, exec_transfer_ready a d h, (inverted _).trans (addr_phase_of_trace a d s _).symm⟩

/-! ### The wire data byte (rule R53) -/

theorem getLsbD_wireData (c : Cfg) (d : Byte) {i : Nat} (hi : i < 8) :
    (wireData c d).getLsbD i = (c.invertTx ^^ d.getLsbD i) := by
  cases hc : c.invertTx
  · simp [wireData, hc]
  · simp [wireData, hc, hi]

/-- Settles O21: the data phase is the 48 events after the acknowledgment sample. -/
theorem wireDataFollowsPolicy : Obligations.WireDataFollowsPolicy := by
  intro s a d h
  refine ⟨_, wireData s.cfg d, exec_transfer_ready a d h, fun i hi => getLsbD_wireData s.cfg d hi, ?_⟩
  rw [data_phase_of_trace, dataEvents_eq_flatMap_bits]
  rfl

/-! ### The received byte (rule R54) -/

theorem rxPos_lt (c : Cfg) (k : Fin 8) : rxPos c k < 8 := by
  cases hc : c.rxOrder <;> simp only [rxPos, hc] <;> omega

/-- No two samples fill the same bit. -/
theorem rxPos_injective (c : Cfg) : Function.Injective (rxPos c) := by
  intro j k h
  cases hc : c.rxOrder <;> simp only [rxPos, hc] at h <;> omega

/-- A bit of a byte built by OR-ing one bit for each cell: it was set before, or a cell that fills it sampled 1. -/
theorem getLsbD_foldl_or_bitAt (x : Fin 8 → Bool) (pos : Fin 8 → Nat) {i : Nat} (hi : i < 8) (ks : List (Fin 8))
    (r : Byte) :
    (ks.foldl (fun r k => r ||| bitAt (x k) (pos k)) r).getLsbD i
      = (r.getLsbD i || ks.any fun k => x k && decide (i = pos k)) := by
  induction ks generalizing r with
  | nil => simp
  | cons k ks ih =>
    simp only [List.foldl_cons, List.any_cons, ih, BitVec.getLsbD_or, getLsbD_bitAt _ _ hi, Bool.or_assoc]

/-- The bit that the `k`-th cell fills is its sample: all eight cells are visited and no other fills that bit. -/
theorem getLsbD_received_rxPos (c : Cfg) (x : Nat → Bool) (k : Fin 8) :
    (received c x).getLsbD (rxPos c k) = x k := by
  have visited : ∀ j : Fin 8, j ∈ ([0, 1, 2, 3, 4, 5, 6, 7] : List (Fin 8)) := by decide
  rw [received, getLsbD_foldl_or_bitAt (fun j => x j) (rxPos c) (rxPos_lt c k), Bool.eq_iff_iff]
  simp only [BitVec.ofNat_eq_ofNat, BitVec.getLsbD_zero, Bool.false_or, List.any_eq_true, Bool.and_eq_true,
    decide_eq_true_eq]
  constructor
  · rintro ⟨j, -, hx, hpos⟩
    rwa [rxPos_injective c hpos]
  · intro hx
    exact ⟨k, visited k, hx, rfl⟩

/-- Settles O22: under either order the bit the statement names is the one `rxPos` gives the cell. -/
theorem receivedByteFromSamples : Obligations.ReceivedByteFromSamples := by
  intro s a d h
  refine ⟨_, s.rxFrom 0, s.ackFrom 0, exec_transfer_ready a d h, rfl, rfl, fun k hk => ?_⟩
  have bit : (s.rxFrom 0).getLsbD (rxPos s.cfg ⟨k, hk⟩) = s.sampleAt (1 + k) :=
    getLsbD_received_rxPos s.cfg (fun j => s.sampleAt (0 + 1 + j)) ⟨k, hk⟩
  refine ⟨fun hc => ?_, fun hc => ?_⟩
  · simpa only [rxPos, hc] using bit
  · simpa only [rxPos, hc] using bit

end Sys2Proof.Machine
end

section
/-! The transport chapter (spec/40_transport.md): the two primitives that send a bit, each one bit cell (rules R68, R70) with
its five events in the order of rule R66, in every mode. -/

namespace Sys2Proof.Machine

theorem exec_writeBit (b : Bool) (s : State) : exec (.writeBit b) s = finish .done (cell b s) := rfl

theorem exec_xferBit (b : Bool) (s : State) :
    exec (.xferBit b) s = finish (.bit (xferBit b s).1) (xferBit b s).2 := rfl

/-- The events of a bit cell as `State.events` holds them, the latest first (rule R66 backwards). -/
theorem reverse_cellEvents (T : Nat) (b : Bool) :
    (cellEvents T b).reverse = [.wait T, .clk true, .wait T, .dout b, .clk false] := rfl

/-- Settles O13: the operation is one cell, and the cell's events are rule R66's. -/
theorem writeBitSendsOneCell : Obligations.WriteBitSendsOneCell := by
  intro b s
  rw [exec_writeBit, cell_eq, finish_eq, reverse_cellEvents]

/-- Settles O15: the cell's events, with the sample that `xferBit` draws after them, which is also the reply. -/
theorem xferBitSendsAndSamples : Obligations.XferBitSendsAndSamples := by
  intro b s
  rw [exec_xferBit, xferBit_eq, finish_eq, reverse_cellEvents, ← List.cons_append]

end Sys2Proof.Machine
end

section
/-! The transfer chapter (spec/41_transfer.md): the trace of one transfer and the number of its events of each kind (rule
R79). The events of a kind are counted once for a bit cell, a sample and an Enable event, and the trace is 16 cells, nine
samples and two Enable events. -/

namespace Sys2Proof.Machine

/-! ### The trace as a whole -/

theorem trace_afterTransfer (a d : Byte) (s : State) (r : Reply) :
    ({ afterTransfer a d s with reply := r } : State).trace = s.trace ++ s.framesFrom 0 a d := by
  simp only [State.trace, afterTransfer, List.reverse_append, List.reverse_reverse]

theorem length_transferEvents (T : Nat) (A W : Byte) (v : Bool) (x : Nat → Bool) :
    (transferEvents T A W v x).length = 91 := by
  simp only [transferEvents, List.length_append, List.length_singleton, length_addrEvents, length_dataEvents]

theorem head?_transferEvents (T : Nat) (A W : Byte) (v : Bool) (x : Nat → Bool) :
    (transferEvents T A W v x).head? = some (.en false) := by
  simp only [transferEvents, List.append_assoc, List.cons_append, List.head?_cons]

theorem getLast?_transferEvents (T : Nat) (A W : Byte) (v : Bool) (x : Nat → Bool) :
    (transferEvents T A W v x).getLast? = some (.en true) := by
  rw [transferEvents, List.getLast?_concat]

/-! ### Counting the events of one kind -/

section
variable {p : Event → Bool} {T n m k : Nat}

theorem countP_addrEvents (cell : ∀ b, (cellEvents T b).countP p = n) (A : Byte) :
    (addrEvents T A).countP p = 8 * n := by
  simp only [addrEvents, List.countP_flatMap, Function.comp_def, cell, List.map_const', List.sum_replicate,
    List.length_cons, List.length_nil, smul_eq_mul]

theorem countP_dataEvents (cell : ∀ b, (cellEvents T b).countP p = n) (sample : ∀ b, [Event.sample b].countP p = m)
    (W : Byte) (x : Nat → Bool) : (dataEvents T W x).countP p = 8 * (n + m) := by
  simp only [dataEvents, List.countP_flatMap, Function.comp_def, List.countP_append, cell, sample, List.map_const',
    List.sum_replicate, List.length_cons, List.length_nil, smul_eq_mul]

/-- A transfer is 16 bit cells, nine samples and two Enable events. -/
theorem countP_transferEvents (cell : ∀ b, (cellEvents T b).countP p = n) (sample : ∀ b, [Event.sample b].countP p = m)
    (enable : ∀ b, [Event.en b].countP p = k) (A W : Byte) (v : Bool) (x : Nat → Bool) :
    (transferEvents T A W v x).countP p = 16 * n + 9 * m + 2 * k := by
  simp only [transferEvents, List.countP_append, countP_addrEvents cell, countP_dataEvents cell sample, sample, enable]
  omega

end

/-! ### The counts of rule R79 -/

section
variable (T : Nat) (A W : Byte) (v : Bool) (x : Nat → Bool)

/-- Each cell has one edge to either level. -/
theorem countP_clk_transferEvents (level : Bool) :
    (transferEvents T A W v x).countP (· == .clk level) = 16 := by
  refine countP_transferEvents (n := 1) (m := 0) (k := 0) (fun b => ?_) (fun b => rfl) (fun b => rfl) A W v x
  cases level <;> rfl

/-- Each cell has two holds. -/
theorem countP_wait_transferEvents : (transferEvents T A W v x).countP (· == .wait T) = 32 := by
  refine countP_transferEvents (n := 2) (m := 0) (k := 0) (fun b => ?_) (fun b => rfl) (fun b => rfl) A W v x
  simp [cellEvents]

/-- Each cell puts one level on `DOUT`. -/
theorem countP_dout_transferEvents :
    (transferEvents T A W v x).countP (fun e => e == .dout true || e == .dout false) = 16 := by
  refine countP_transferEvents (n := 1) (m := 0) (k := 0) (fun b => ?_) (fun b => rfl) (fun b => rfl) A W v x
  cases b <;> rfl

theorem countP_sample_transferEvents :
    (transferEvents T A W v x).countP (fun e => e == .sample true || e == .sample false) = 9 := by
  refine countP_transferEvents (n := 0) (m := 1) (k := 0) (fun b => rfl) (fun b => ?_) (fun b => rfl) A W v x
  cases b <;> rfl

theorem countP_en_transferEvents :
    (transferEvents T A W v x).countP (fun e => e == .en true || e == .en false) = 2 := by
  refine countP_transferEvents (n := 0) (m := 0) (k := 1) (fun b => rfl) (fun b => rfl) (fun b => ?_) A W v x
  cases b <;> rfl

end

/-- Settles O18: the events added are `transferEvents`, whose data phase the statement counts by bit instead of by cell. -/
theorem transferTraceHas91Events : Obligations.TransferTraceHas91Events := by
  intro s a d h
  refine ⟨_, s.framesFrom 0 a d, exec_transfer_ready a d h, trace_afterTransfer a d s _, ?_, ?_⟩
  · rw [State.framesFrom, transferEvents, dataEvents_eq_flatMap_bits]
    rfl
  · exact ⟨length_transferEvents .., countP_clk_transferEvents .., countP_clk_transferEvents ..,
      countP_wait_transferEvents .., countP_dout_transferEvents .., countP_sample_transferEvents ..,
      countP_en_transferEvents .., head?_transferEvents .., getLast?_transferEvents ..⟩

end Sys2Proof.Machine
end

section
/-! The views chapter (spec/42_views.md): the register map read both ways (rules R85, R86), and what each view decodes and
encodes, with the laws that tie the two together (rules R87 to R96). The laws are proved of the functions the operations
hand to their reply; the slider's are arithmetic of nibbles, those of the other views are about single bits. -/

namespace Sys2Proof.Machine

/-! ### The operations of the chapter (rule R98: only the reply changes) -/

section
variable (s : State)

theorem exec_addrOf (r : RegName) : exec (.addrOf r) s = .next { s with reply := .byte (tableAddr r) } := rfl

theorem exec_regOf (a : Byte) : exec (.regOf a) s = .next { s with reply := .register (regAt a) } := rfl

theorem exec_decodeRaw (b : Byte) : exec (.decodeRaw b) s = .next { s with reply := .byte b } := rfl

theorem exec_encodeRaw (b : Byte) : exec (.encodeRaw b) s = .next { s with reply := .byte b } := rfl

theorem exec_decodeSlider (b : Byte) :
    exec (.decodeSlider b) s = .next { s with reply := .slider (sliderDecode b) } := rfl

theorem exec_encodeSlider (first second : Nat) :
    exec (.encodeSlider first second) s =
      if first ≤ 15 ∧ second ≤ 15 then
        .next { s with reply := .byte (sliderEncode { first := BitVec.ofNat 4 first, second := BitVec.ofNat 4 second }) }
      else .next { s with reply := .refused .argRange } := by
  have refusal : (15 < first ∨ 15 < second) ↔ ¬(first ≤ 15 ∧ second ≤ 15) := by omega
  simp only [exec, execEncodeSlider, finish_eq, refuse_eq, refusal, ite_not]

/-- The two values of a SliderView are never refused. -/
theorem exec_encodeSlider_view (v : SliderView) :
    exec (.encodeSlider v.first.toNat v.second.toNat) s = .next { s with reply := .byte (sliderEncode v) } := by
  have inRange : v.first.toNat ≤ 15 ∧ v.second.toNat ≤ 15 := by omega
  rw [exec_encodeSlider, if_pos inRange, BitVec.ofNat_toNat, BitVec.setWidth_eq, BitVec.ofNat_toNat, BitVec.setWidth_eq]

theorem exec_decodeButtons (b : Byte) :
    exec (.decodeButtons b) s = .next { s with reply := .buttons (buttonsDecode s.cfg b) } := rfl

theorem exec_encodeButtons (v : ButtonsView) :
    exec (.encodeButtons v) s = .next { s with reply := .byte (buttonsEncode s.cfg v) } := rfl

theorem exec_decodeSpot (b : Byte) : exec (.decodeSpot b) s = .next { s with reply := .spot (spotDecode b) } := rfl

theorem exec_encodeSpot (v : SpotView) : exec (.encodeSpot v) s = .next { s with reply := .byte (spotEncode v) } := rfl

theorem exec_decodeNeon (b : Byte) : exec (.decodeNeon b) s = .next { s with reply := .bit (neonDecode s.cfg b) } := rfl

theorem exec_encodeNeon (on : Bool) : exec (.encodeNeon on) s = .next { s with reply := .byte (neonEncode s.cfg on) } := rfl

end

/-! ### The register map (rules R85, R86) -/

theorem tableAddr_of_mem_addressMap : ∀ p ∈ addressMap, tableAddr p.1 = p.2 := by decide

theorem mem_addressMap_tableAddr : ∀ r : RegName, (r, tableAddr r) ∈ addressMap := forall_reg (by decide)

theorem tableAddr_eq_ofNat : ∀ r : RegName, tableAddr r = BitVec.ofNat 8 (8 * regId r + 7) := forall_reg (by decide)

theorem regOfId_regId : ∀ r : RegName, regOfId (regId r) = some r := forall_reg (by decide)

theorem exists_regId_eq {n : Nat} (h : n ≤ 17) : ∃ r : RegName, regId r = n := by
  have listed : ∀ n < 18, ∃ r ∈ allRegs, regId r = n := by decide
  obtain ⟨r, -, hr⟩ := listed n (Nat.lt_succ_of_le h)
  exact ⟨r, hr⟩

/-- Ids 18 and above name no register (rule R41), and every smaller one does. -/
theorem regOfId_eq_none_iff {n : Nat} : regOfId n = none ↔ 17 < n := by
  constructor
  · intro hnone
    by_contra hle
    obtain ⟨r, rfl⟩ := exists_regId_eq (Nat.le_of_not_lt hle)
    rw [regOfId_regId] at hnone
    contradiction
  · intro hlt
    obtain ⟨m, rfl⟩ := Nat.exists_eq_add_of_le' hlt
    rfl

theorem regOfId_eq_some_iff {n : Nat} {r : RegName} : regOfId n = some r ↔ n = regId r := by
  constructor
  · intro hsome
    have hle : n ≤ 17 := by
      by_contra hlt
      rw [regOfId_eq_none_iff.mpr (Nat.lt_of_not_le hlt)] at hsome
      contradiction
    obtain ⟨q, rfl⟩ := exists_regId_eq hle
    rw [regOfId_regId, Option.some.injEq] at hsome
    rw [hsome]
  · rintro rfl
    exact regOfId_regId r

theorem regAt_eq_some_iff (a : Byte) (r : RegName) :
    regAt a = some r ↔ a.extractLsb' 0 3 = 0b111 ∧ (a.extractLsb' 3 5).toNat = regId r := by
  unfold regAt
  split
  case isTrue low => simp only [low, true_and, regOfId_eq_some_iff]
  case isFalse low => simp only [low, false_and, reduceCtorEq]

theorem regAt_eq_none_iff (a : Byte) :
    regAt a = none ↔ ¬(a.extractLsb' 0 3 = 0b111 ∧ (a.extractLsb' 3 5).toNat ≤ 17) := by
  unfold regAt
  split
  case isTrue low => simp only [low, true_and, regOfId_eq_none_iff, not_le]
  case isFalse low => simp only [low, false_and, not_false_eq_true]

/-- Under `AND7` the wire address of every table address is that of Buttons (conflict C2). -/
theorem regAt_wireAddr_and7 {c : Cfg} (hc : c.addrMode = .and7) (r : RegName) :
    regAt (wireAddr c (tableAddr r)) = some (.input .buttons) := by
  obtain ⟨-, masked⟩ := wireAddr_of_mem_addressMap (c := c) (mem_addressMap_tableAddr r)
  rw [masked hc, regAt_eq_some_iff]
  decide

/-- Settles O6: the answer is `regAt`, which the two equivalences determine. -/
theorem regOfSelectsByAddress : Obligations.RegOfSelectsByAddress := by
  refine ⟨fun a s => ⟨regAt a, exec_regOf s a, regAt_eq_some_iff a, regAt_eq_none_iff a⟩, fun c r s hc => ?_⟩
  rw [exec_regOf, regAt_wireAddr_and7 hc]

/-- Settles O5: the map's column of addresses is `tableAddr`. -/
theorem addrOfGivesTableAddress : Obligations.AddrOfGivesTableAddress := by
  refine ⟨fun r a s hmem => ?_, fun r => ⟨tableAddr r, mem_addressMap_tableAddr r, tableAddr_eq_ofNat r⟩⟩
  rw [exec_addrOf, tableAddr_of_mem_addressMap (r, a) hmem]

/-! ### The raw view (rule R87) -/

theorem viewOf_eq_raw_iff (r : RegName) :
    viewOf r = .raw ↔
      r = .input .turntableP1 ∨ r = .input .turntableP2 ∨ r = .output .buttonLamps ∨ ∃ i, r = .output (.segment i) := by
  cases r with
  | input r => cases r <;> simp [viewOf]
  | output r => cases r <;> simp [viewOf]

/-- Settles O31. -/
theorem rawViewsPassTheByte : Obligations.RawViewsPassTheByte :=
  ⟨fun b s => ⟨exec_decodeRaw s b, exec_encodeRaw s b⟩, viewOf_eq_raw_iff⟩

/-! ### The slider view (rules R88, R89) -/

theorem toNat_sliderDecode_first (b : Byte) : (sliderDecode b).first.toNat = b.toNat % 16 := by
  simp [sliderDecode]

theorem toNat_sliderDecode_second (b : Byte) : (sliderDecode b).second.toNat = b.toNat / 16 := by
  have small : b.toNat / 16 < 16 := by omega
  simpa [sliderDecode, Nat.shiftRight_eq_div_pow] using small

theorem toNat_sliderEncode (v : SliderView) : (sliderEncode v).toNat = v.second.toNat * 16 + v.first.toNat := by
  have high : (v.second.setWidth 8 <<< 4).toNat = v.second.toNat <<< 4 := by
    simp only [BitVec.toNat_shiftLeft, BitVec.toNat_setWidth, Nat.shiftLeft_eq]
    omega
  have low : (v.first.setWidth 8).toNat = v.first.toNat := BitVec.toNat_setWidth_of_le (by decide)
  rw [sliderEncode, BitVec.toNat_or, high, low, ← Nat.shiftLeft_add_eq_or_of_lt v.first.isLt, Nat.shiftLeft_eq]

theorem sliderView_ext {v w : SliderView} (hfirst : v.first = w.first) (hsecond : v.second = w.second) : v = w := by
  cases v
  cases w
  rw [SliderView.mk.injEq]
  exact ⟨hfirst, hsecond⟩

theorem sliderDecode_sliderEncode (v : SliderView) : sliderDecode (sliderEncode v) = v := by
  apply sliderView_ext
  · apply BitVec.eq_of_toNat_eq
    rw [toNat_sliderDecode_first, toNat_sliderEncode]
    omega
  · apply BitVec.eq_of_toNat_eq
    rw [toNat_sliderDecode_second, toNat_sliderEncode]
    omega

theorem sliderEncode_sliderDecode (b : Byte) : sliderEncode (sliderDecode b) = b := by
  apply BitVec.eq_of_toNat_eq
  rw [toNat_sliderEncode, toNat_sliderDecode_first, toNat_sliderDecode_second]
  omega

theorem sliderDecode_eq_ofNat (b : Byte) :
    sliderDecode b = { first := BitVec.ofNat 4 (b.toNat % 16), second := BitVec.ofNat 4 (b.toNat / 16) } := by
  rw [← toNat_sliderDecode_first, ← toNat_sliderDecode_second, BitVec.ofNat_toNat, BitVec.setWidth_eq,
    BitVec.ofNat_toNat, BitVec.setWidth_eq]

theorem sliderEncode_ofNat {first second : Nat} (h : first ≤ 15 ∧ second ≤ 15) :
    sliderEncode { first := BitVec.ofNat 4 first, second := BitVec.ofNat 4 second }
      = BitVec.ofNat 8 (second * 16 + first) := by
  apply BitVec.eq_of_toNat_eq
  simp only [toNat_sliderEncode, BitVec.toNat_ofNat]
  omega

/-- Settles O32: nibbles are remainder and quotient by 16, and the operation refuses by the test of the statement. -/
theorem sliderViewIsTwoNibbles : Obligations.SliderViewIsTwoNibbles := by
  refine ⟨fun b s => ?_, fun first second s => ?_⟩
  · rw [exec_decodeSlider, sliderDecode_eq_ofNat]
  · rw [exec_encodeSlider]
    by_cases h : first ≤ 15 ∧ second ≤ 15
    · rw [if_pos h, if_pos h, sliderEncode_ofNat h]
    · rw [if_neg h, if_neg h]

/-! ### The spotlights view (rules R58, R92, R93) -/

theorem spotPos_lt : ∀ k, spotPos k < 8 := by decide

/-- No two lamps have the same bit. -/
theorem spotPos_injective : Function.Injective spotPos := by decide

/-- Every bit of the byte is a lamp's. -/
theorem exists_spotPos_eq : ∀ i < 8, ∃ k, spotPos k = i := by decide

theorem spotView_ext {v w : SpotView} (h : ∀ k, lampOf v k = lampOf w k) : v = w := by
  cases v
  cases w
  rw [SpotView.mk.injEq]
  exact ⟨h 0, h 1, h 2, h 3, h 4, h 5, h 6, h 7⟩

theorem lampOf_spotDecode (b : Byte) (k : Fin 8) : lampOf (spotDecode b) k = b.getLsbD (spotPos k) := by
  fin_cases k <;> rfl

theorem getLsbD_spotEncode_spotPos (v : SpotView) (k : Fin 8) : (spotEncode v).getLsbD (spotPos k) = lampOf v k := by
  simp only [spotEncode, BitVec.getLsbD_or, getLsbD_bitAt _ _ (spotPos_lt k), spotPos_injective.eq_iff]
  fin_cases k <;> simp [lampOf]

theorem spotDecode_spotEncode (v : SpotView) : spotDecode (spotEncode v) = v := by
  apply spotView_ext
  intro k
  rw [lampOf_spotDecode, getLsbD_spotEncode_spotPos]

theorem spotEncode_spotDecode (b : Byte) : spotEncode (spotDecode b) = b := by
  apply BitVec.eq_of_getLsbD_eq
  intro i hi
  obtain ⟨k, rfl⟩ := exists_spotPos_eq i hi
  rw [getLsbD_spotEncode_spotPos, lampOf_spotDecode]

/-- Settles O34: the bit numbers of the statement are the values of `spotPos`. -/
theorem spotViewIsEightLamps : Obligations.SpotViewIsEightLamps := by
  refine ⟨fun b s => exec_decodeSpot s b, fun v s => ⟨spotEncode v, exec_encodeSpot s v, ?_⟩⟩
  have lamp := getLsbD_spotEncode_spotPos v
  exact ⟨lamp 3, lamp 2, lamp 1, lamp 0, lamp 4, lamp 5, lamp 6, lamp 7⟩

/-! ### The buttons and neon views (rules R90, R91, R94, R95) -/

/-- A bit read at `n` and put back there is the byte with every other bit cleared; above bit 7 both sides are 0. -/
theorem bitAt_getLsbD (b : Byte) (n : Nat) : bitAt (b.getLsbD n) n = b &&& 1#8 <<< n := by
  apply BitVec.eq_of_getLsbD_eq
  intro i hi
  have mask : (1#8 <<< n).getLsbD i = decide (i = n) := getLsbD_bitAt true n hi
  rw [getLsbD_bitAt _ _ hi, BitVec.getLsbD_and, mask]
  by_cases h : i = n
  · rw [h]
  · simp only [h, decide_false, Bool.and_false]

theorem neonDecode_neonEncode {c : Cfg} (h : c.neonBit ≤ 7) (on : Bool) : neonDecode c (neonEncode c on) = on := by
  simp only [neonDecode, neonEncode, getLsbD_bitAt _ _ (Nat.lt_succ_of_le h), decide_true, Bool.and_true]

theorem neonEncode_neonDecode (c : Cfg) (b : Byte) : neonEncode c (neonDecode c b) = b &&& 1#8 <<< c.neonBit :=
  bitAt_getLsbD b c.neonBit

/-- No field's bit is lost or shared: the indices are below 8 and distinct (rule R9). Distinctness is used in both orders of
each pair, the second being that of the indices listed backwards. -/
theorem buttonsDecode_buttonsEncode {c : Cfg} (hv : cfgValid c = true) (v : ButtonsView) :
    buttonsDecode c (buttonsEncode c v) = v := by
  obtain ⟨-, -, inRange, distinct⟩ := (cfgValid_iff c).mp hv
  obtain ⟨hp1, hp2, hvefx, heffect, hcredit⟩ := (forall_mem_btnIndices_le_iff c.btnPos 7).mp inRange
  have forwards := (btnIndices_nodup_iff c.btnPos).mp distinct
  have backwards := (btnIndices_nodup_iff ⟨c.btnPos.creditCounter, c.btnPos.effect, c.btnPos.vefx, c.btnPos.p2Start,
    c.btnPos.p1Start⟩).mp (List.nodup_reverse.mpr distinct)
  have sent {i : Nat} (h : i ≤ 7) := getLsbD_buttonsEncode c v (Nat.lt_succ_of_le h)
  simp [buttonsDecode, sent hp1, sent hp2, sent hvefx, sent heffect, sent hcredit, forwards, backwards]

theorem buttonsEncode_buttonsDecode (c : Cfg) (b : Byte) :
    buttonsEncode c (buttonsDecode c b) = b &&&
      (1#8 <<< c.btnPos.p1Start ||| 1#8 <<< c.btnPos.p2Start ||| 1#8 <<< c.btnPos.vefx
        ||| 1#8 <<< c.btnPos.effect ||| 1#8 <<< c.btnPos.creditCounter) := by
  simp only [buttonsEncode, buttonsDecode, bitAt_getLsbD, BitVec.and_or_distrib_left]

/-! ### The round-trip laws (rule R96) -/

/-- Settles O36: each law is that of the view's two functions; only those of buttons and neon need the valid `Cfg`. -/
theorem viewsRoundTrip : Obligations.ViewsRoundTrip := by
  intro s hv
  obtain ⟨-, ⟨-, hneon, -⟩, -⟩ := (cfgValid_iff s.cfg).mp hv
  refine ⟨fun b => ⟨b, exec_encodeRaw s b, exec_decodeRaw s b⟩,
    fun v => ⟨_, exec_encodeSlider_view s v, ?_⟩,
    fun v => ⟨_, exec_encodeButtons s v, ?_⟩,
    fun v => ⟨_, exec_encodeSpot s v, ?_⟩,
    fun on => ⟨_, exec_encodeNeon s on, ?_⟩,
    fun b => ⟨⟨b, exec_decodeRaw s b, exec_encodeRaw s b⟩,
      ⟨_, exec_decodeSlider s b, ?_⟩, ⟨_, exec_decodeSpot s b, ?_⟩, ⟨_, exec_decodeButtons s b, ?_⟩,
      ⟨_, exec_decodeNeon s b, ?_⟩⟩⟩
  · rw [exec_decodeSlider, sliderDecode_sliderEncode]
  · rw [exec_decodeButtons, buttonsDecode_buttonsEncode hv]
  · rw [exec_decodeSpot, spotDecode_spotEncode]
  · rw [exec_decodeNeon, neonDecode_neonEncode hneon]
  · rw [exec_encodeSlider_view, sliderEncode_sliderDecode]
  · rw [exec_encodeSpot, spotEncode_spotDecode]
  · rw [exec_encodeButtons, buttonsEncode_buttonsDecode]
  · rw [exec_encodeNeon, neonEncode_neonDecode]

end Sys2Proof.Machine
end

section
/-! The schedulers chapter (spec/44_schedulers.md): elapsed time (rule R107), the cursor and the lamp index after any number of
advances (rules R110, R114), and the Spotlights byte of a lamp index (rule R115). A run of advances is an induction over its
times that starts from any cursor or index. -/

namespace Sys2Proof.Machine

/-! ### The operations of the chapter -/

theorem exec_scrollStep (t : Nat) (s : State) :
    exec (.scrollStep t) s = .next { scrollStep t s with reply := .done } := rfl

theorem exec_spotByte (k : Fin 8) (s : State) :
    exec (.spotByte k) s = .next { s with reply := .byte (spotByteOf k) } := rfl

/-! ### Elapsed time (rule R107) -/

theorem timeModulus_pos (c : Cfg) : (0 : Int) < timeModulus c := mod_cast Nat.two_pow_pos c.timeW

theorem cast_elapsed (c : Cfg) (t last : Nat) :
    (elapsed c t last : Int) = ((t : Int) - (last : Int)) % (timeModulus c : Int) :=
  Int.toNat_of_nonneg (Int.emod_nonneg _ (timeModulus_pos c).ne')

theorem elapsed_lt (c : Cfg) (t last : Nat) : elapsed c t last < timeModulus c := by
  have bound := Int.emod_lt_of_pos ((t : Int) - last) (timeModulus_pos c)
  rw [← cast_elapsed] at bound
  exact mod_cast bound

/-- Elapsed time depends on the two true times only through their values of `TIME_W` bits (rule R106). -/
theorem elapsed_timeValue (c : Cfg) (T L : Nat) : elapsed c (timeValue c T) (timeValue c L) = elapsed c T L := by
  simp only [elapsed, timeValue, Int.natCast_emod, ← Int.sub_emod]

theorem elapsed_eq_sub {c : Cfg} {T L : Nat} (hle : L ≤ T) (hlt : T - L < timeModulus c) : elapsed c T L = T - L := by
  apply Int.ofNat_inj.mp
  rw [cast_elapsed, ← Int.ofNat_sub hle]
  exact mod_cast Nat.mod_eq_of_lt hlt

/-- Settles O46: reducing the two times changes nothing, and a difference below the modulus is its own remainder. -/
theorem elapsedIsTrueElapsed : Obligations.ElapsedIsTrueElapsed := by
  intro c
  refine ⟨fun t last => ⟨cast_elapsed c t last, elapsed_lt c t last⟩, fun T L hle hlt => ?_⟩
  calc elapsed c (timeValue c T) (timeValue c L)
      = elapsed c T L := elapsed_timeValue c T L
    _ = T - L := elapsed_eq_sub hle hlt

/-! ### The scroll cursor (rules R109, R110) -/

/-- The wrap of rule R109 is the remainder by `TEXT_LEN` wherever the cursor invariant holds. -/
theorem cursor_scrollStep_of_advances {t : Nat} {s : State} (hc : s.cursor < s.cfg.textLen)
    (h : s.cfg.scrollInterval ≤ elapsed s.cfg t s.lastScroll) :
    (scrollStep t s).cursor = (s.cursor + 1) % s.cfg.textLen := by
  rw [scrollStep, if_pos h]
  by_cases wraps : s.cursor + 1 = s.cfg.textLen
  · simp only [wraps, if_true, Nat.mod_self]
  · have below : s.cursor + 1 < s.cfg.textLen := by omega
    simp only [wraps, if_false, Nat.mod_eq_of_lt below]

theorem scrollStep_of_not_advances {t : Nat} {s : State}
    (h : ¬ s.cfg.scrollInterval ≤ elapsed s.cfg t s.lastScroll) : scrollStep t s = s := if_neg h

theorem cursor_scrollStep_lt {s : State} (t : Nat) (hc : s.cursor < s.cfg.textLen) :
    (scrollStep t s).cursor < s.cfg.textLen := by
  by_cases h : s.cfg.scrollInterval ≤ elapsed s.cfg t s.lastScroll
  · rw [cursor_scrollStep_of_advances hc h]
    exact Nat.mod_lt _ (Nat.zero_lt_of_lt hc)
  · rwa [scrollStep_of_not_advances h]

theorem cursor_foldl_scrollStep {ts : List Nat} {s : State} (hc : s.cursor < s.cfg.textLen)
    (h : everyScrollAdvances ts s) :
    (ts.foldl (fun s t => scrollStep t s) s).cursor = (s.cursor + ts.length) % s.cfg.textLen := by
  induction ts generalizing s with
  | nil => exact (Nat.mod_eq_of_lt hc).symm
  | cons t ts ih =>
    obtain ⟨now, later⟩ := h
    have hc' : (scrollStep t s).cursor < (scrollStep t s).cfg.textLen := by
      simpa only [scrollStep_cfg] using cursor_scrollStep_lt t hc
    rw [List.foldl_cons, ih hc' later, cursor_scrollStep_of_advances hc now, scrollStep_cfg, Nat.mod_add_mod,
      List.length_cons, Nat.add_assoc, Nat.add_comm 1]

/-- Settles O40: a valid record has `1 ≤ TEXT_LEN ≤ 64`, the step keeps the bound, and the run starts from cursor 0. -/
theorem cursorHasPeriodTextLen : Obligations.CursorHasPeriodTextLen := by
  refine ⟨fun cfg t0 s hb ht hv => ?_, fun t s hc => ?_, fun ts s h0 hlen h => ?_⟩
  · obtain ⟨⟨lower, upper⟩, -⟩ := (cfgValid_iff cfg).mp hv
    exact ⟨_, execReset_of_valid hb ht hv, rfl, lower, upper⟩
  · exact ⟨_, exec_scrollStep t s, by simpa only [scrollStep_cfg] using cursor_scrollStep_lt t hc⟩
  · have hc : s.cursor < s.cfg.textLen := by omega
    rw [cursor_foldl_scrollStep hc h, h0, Nat.zero_add]

/-! ### The lamp index (rules R113, R114) -/

theorem animIdx_chaseStep_of_advances {t : Nat} {s : State} (h : s.cfg.animInterval < elapsed s.cfg t s.lastAnim) :
    (chaseStep t s).animIdx = s.animIdx + 1 := by
  rw [chaseStep, if_pos h]

theorem animIdx_foldl_chaseStep {ts : List Nat} {s : State} (h : everyChaseAdvances ts s) :
    ((ts.foldl (fun s t => chaseStep t s) s).animIdx : Nat) = ((s.animIdx : Nat) + ts.length) % 8 := by
  induction ts generalizing s with
  | nil => exact (Nat.mod_eq_of_lt s.animIdx.isLt).symm
  | cons t ts ih =>
    obtain ⟨now, later⟩ := h
    rw [List.foldl_cons, ih later, animIdx_chaseStep_of_advances now, Fin.val_add, Nat.mod_add_mod, List.length_cons,
      Nat.add_assoc, Fin.val_one, Nat.add_comm 1]

/-! ### The Spotlights byte of an index (rules R114, R115) -/

theorem lampOf_onlyLamp (k j : Fin 8) : lampOf (onlyLamp k) j = decide (k = j) := by
  fin_cases j <;> rfl

/-- Bit `pos(k)` is the only one set: every bit of the byte is the bit of one lamp. -/
theorem getLsbD_spotByteOf (k : Fin 8) {i : Nat} (hi : i < 8) :
    (spotByteOf k).getLsbD i = decide (i = spotPos k) := by
  obtain ⟨j, rfl⟩ := exists_spotPos_eq i hi
  rw [spotByteOf, getLsbD_spotEncode_spotPos, lampOf_onlyLamp]
  exact decide_eq_decide.mpr (eq_comm.trans spotPos_injective.eq_iff.symm)

/-- `SPOT_BYTE(k) = onehot(pos(k))` (rule R115). -/
theorem spotByteOf_eq_bitAt (k : Fin 8) : spotByteOf k = bitAt true (spotPos k) := by
  apply BitVec.eq_of_getLsbD_eq
  intro i hi
  rw [getLsbD_spotByteOf k hi, getLsbD_bitAt _ _ hi, Bool.true_and]

/-- Settles O43: the one bit set is the lamp's position. -/
theorem lampIndexHasPeriodEight : Obligations.LampIndexHasPeriodEight :=
  ⟨fun _ _ h => animIdx_foldl_chaseStep h,
    fun k s => ⟨spotByteOf k, spotPos k, exec_spotByte k s, spotPos_lt k, fun _ hi => getLsbD_spotByteOf k hi⟩⟩

/-- Settles O44: each byte of the table is the one-hot byte of its lamp's position. -/
theorem spotByteTable : Obligations.SpotByteTable := by
  intro s
  simp only [exec_spotByte, spotByteOf_eq_bitAt]
  exact ⟨rfl, rfl, rfl, rfl, rfl, rfl, rfl, rfl⟩

end Sys2Proof.Machine
end

section
/-! The exceptions chapter (spec/60_exceptions.md): a refusal changes no state (rule R124), and outside `READY` only a reset
changes the mode or the fault register (rules R29, R128). Both are read off what an operation did, by `exec_cases`. -/

namespace Sys2Proof.Machine

/-! ### Refusals (rule R124) -/

/-- Settles O56: of everything an operation can do, only an answer with nothing else can be a refusal. -/
theorem refusalChangesNothing : Obligations.RefusalChangesNothing := by
  intro i r s t h hr
  cases exec_cases h with
  | answered h =>
    obtain ⟨answer, rfl, -⟩ := h
    obtain rfl : answer = .refused r := hr
    rfl
  | transferred h =>
    obtain ⟨-, a, d, answer, rfl, -, hq⟩ := h
    exact absurd hr (hq r)
  | read q hi h =>
    obtain ⟨-, rfl⟩ := h
    cases hr
  | restarted cfg t0 hi h =>
    obtain ⟨-, -, ⟨-, rfl⟩ | ⟨-, rfl⟩⟩ := h
    · cases hr
    · cases hr
  | ticked hi hm h => subst h; cases hr
  | unwritten f hi hm h => subst h; cases hr
  | clocked hi h =>
    obtain ⟨c, o, n, E, answer, rfl, -, hq⟩ := h
    exact absurd hr (hq r)
  | scrolled x hi h => subst h; cases hr
  | chased x hi h => subst h; cases hr

/-! ### The mode and the fault register outside `READY` (rules R29, R128) -/

/-- What needs `READY` did not happen, and what runs in every mode writes neither field. -/
theorem exec_keeps_mode_fault {i : Instr} {s t : State} (hm : s.mode ≠ .ready) (hi : ∀ cfg t0, i ≠ .reset cfg t0)
    (h : exec i s = .next t) : t.mode = s.mode ∧ t.fault = s.fault := by
  cases exec_cases h with
  | answered h =>
    obtain ⟨answer, rfl, -⟩ := h
    exact ⟨rfl, rfl⟩
  | transferred h => exact absurd h.1 hm
  | read q _ h => exact absurd h.1 hm
  | restarted cfg t0 hreset _ => exact absurd hreset (hi cfg t0)
  | ticked _ ready _ => exact absurd ready hm
  | unwritten f _ ready _ => exact absurd ready hm
  | clocked _ h =>
    obtain ⟨c, o, n, E, answer, rfl, -, -⟩ := h
    exact ⟨rfl, rfl⟩
  | scrolled x _ h =>
    subst h
    exact ⟨scrollStep_mode s x, scrollStep_fault s x⟩
  | chased x _ h =>
    subst h
    exact ⟨chaseStep_mode s x, chaseStep_fault s x⟩

/-- A frame word decodes to an operation with an encoding, and `RESET` has none (rule R62). -/
theorem decodeFrame_ne_reset (f : FrameWord) (cfg : Cfg) (t0 : Nat) : decodeFrame f ≠ .reset cfg t0 := by
  intro h
  rw [decodeFrame] at h
  split at h
  next r _ =>
    have encodes := encode_frameOf r (frameData f)
    rw [h] at encodes
    cases encodes
  next => cases h

theorem instr_eq_reset_iff (q : Request) (cfg : Cfg) (t0 : Nat) : q.instr = .reset cfg t0 ↔ q = .reset cfg t0 := by
  cases q with
  | frame f => simp [Request.instr, decodeFrame_ne_reset]
  | _ => simp [Request.instr]

/-- A step does nothing, or runs the host's oldest request. -/
theorem step_cases {s t : State} (h : step s = .next t) :
    (s.requests = [] ∧ t = s)
      ∨ ∃ q rest, s.requests = q :: rest ∧ exec q.instr { s with requests := rest } = .next t := by
  unfold step at h
  split at h
  next none_waiting =>
    injection h with h
    exact .inl ⟨none_waiting, h.symm⟩
  next q rest waiting => exact .inr ⟨q, rest, waiting, h⟩

theorem mode_ne_ready_of_faulted_or_unconfigured {s : State} (h : s.mode = .faulted ∨ s.mode = .unconfigured) :
    s.mode ≠ .ready := by
  rcases h with h | h <;> simp [h]

/-- Settles O55: neither mode is `READY`, and a step's operation is a reset only where the request is one. -/
theorem onlyResetLeavesFaulted : Obligations.OnlyResetLeavesFaulted := by
  refine ⟨fun i s t hm hi h => exec_keeps_mode_fault (mode_ne_ready_of_faulted_or_unconfigured hm) hi h,
    fun s t hm hreq h => ?_⟩
  rcases step_cases h with ⟨-, rfl⟩ | ⟨q, rest, waiting, ran⟩
  · exact ⟨rfl, rfl⟩
  · have no_reset : ∀ cfg t0, q.instr ≠ .reset cfg t0 := by
      intro cfg t0 hq
      rw [instr_eq_reset_iff] at hq
      exact hreq cfg t0 rest (hq ▸ waiting)
    exact exec_keeps_mode_fault (s := { s with requests := rest }) (mode_ne_ready_of_faulted_or_unconfigured hm)
      no_reset ran

end Sys2Proof.Machine
end

section
/-! The frame words (spec/30_encoding.md): the encoding and the decoding of a frame are each other's inverse on well-formed
frames (rules R48, R49, R62, R63). A frame is that of a register or selects none, and its address byte decides which. -/

namespace Sys2Proof.Machine

/-! ### The address byte of a frame word -/

theorem regAt_tableAddr (r : RegName) : regAt (tableAddr r) = some r := by
  revert r
  exact forall_reg (by decide)

/-- An address that selects a register is that register's table address: the low bits and the id are all of its bits. -/
theorem tableAddr_eq_of_regAt {a : Byte} {r : RegName} (h : regAt a = some r) : tableAddr r = a := by
  obtain ⟨low, id⟩ := (regAt_eq_some_iff a r).mp h
  have low' : a.toNat % 8 = 7 := by simpa using congrArg BitVec.toNat low
  have id' : a.toNat / 8 % 32 = regId r := by simpa [Nat.shiftRight_eq_div_pow] using id
  rw [tableAddr_eq_ofNat]
  apply BitVec.eq_of_toNat_eq
  rw [BitVec.toNat_ofNat]
  omega

theorem frameOf_ne_frameUnassigned (r : RegName) (w a w' : Byte) : frameOf r w ≠ .frameUnassigned a w' := by
  revert r
  exact forall_reg (by simp [allRegs, frameOf])

/-- Registers have different frames, for they have different table addresses. -/
theorem frameOf_inj {r r' : RegName} {w : Byte} : frameOf r w = frameOf r' w ↔ r = r' := by
  refine ⟨fun h => ?_, fun h => by rw [h]⟩
  have encoded : tableAddr r ++ w = tableAddr r' ++ w := by
    rw [← Option.some_inj, ← encode_frameOf, ← encode_frameOf, h]
  have addr : tableAddr r = tableAddr r' := by simpa using congrArg frameAddr encoded
  rw [← Option.some_inj, ← regAt_tableAddr, ← regAt_tableAddr, addr]

theorem decodeFrame_eq_frameOf_iff (f : FrameWord) (r : RegName) :
    decodeFrame f = frameOf r (frameData f) ↔ regAt (frameAddr f) = some r := by
  unfold decodeFrame
  split
  next q selected => rw [selected, frameOf_inj, Option.some_inj]
  next selected =>
    rw [selected]
    exact iff_of_false (frameOf_ne_frameUnassigned r _ _ _).symm (by simp)

theorem decodeFrame_eq_frameUnassigned_iff (f : FrameWord) :
    decodeFrame f = .frameUnassigned (frameAddr f) (frameData f) ↔ regAt (frameAddr f) = none := by
  unfold decodeFrame
  split
  next q selected =>
    rw [selected]
    exact iff_of_false (frameOf_ne_frameUnassigned q _ _ _) (by simp)
  next selected => exact iff_of_true rfl selected

/-- Settles O4: the frame is the one of `regAt` of its address byte, and `regAt` tests the id and the low bits. -/
theorem framesSelectRegisters : Obligations.FramesSelectRegisters := fun f =>
  ⟨fun r => (decodeFrame_eq_frameOf_iff f r).trans (regAt_eq_some_iff _ r),
    (decodeFrame_eq_frameUnassigned_iff f).trans (regAt_eq_none_iff _)⟩

/-! ### Decoding an encoding -/

/-- The operations with an encoding are the frames: one for each register, and those that select none. -/
theorem exists_frame_of_encode {i : Instr} {f : FrameWord} (h : encode i = some f) :
    (∃ r w, i = frameOf r w) ∨ ∃ a w, i = .frameUnassigned a w := by
  cases i with
  | frameButtons w => exact .inl ⟨.input .buttons, w, rfl⟩
  | frameTurntableP1 w => exact .inl ⟨.input .turntableP1, w, rfl⟩
  | frameTurntableP2 w => exact .inl ⟨.input .turntableP2, w, rfl⟩
  | frameVolumePair12 w => exact .inl ⟨.input .volumePair12, w, rfl⟩
  | frameVolumePair34 w => exact .inl ⟨.input .volumePair34, w, rfl⟩
  | frameVolume5 w => exact .inl ⟨.input .volume5, w, rfl⟩
  | frameButtonLamps w => exact .inl ⟨.output .buttonLamps, w, rfl⟩
  | frameSixteenSegment1 w => exact .inl ⟨.output (.segment 0), w, rfl⟩
  | frameSixteenSegment2 w => exact .inl ⟨.output (.segment 1), w, rfl⟩
  | frameSixteenSegment3 w => exact .inl ⟨.output (.segment 2), w, rfl⟩
  | frameSixteenSegment4 w => exact .inl ⟨.output (.segment 3), w, rfl⟩
  | frameSixteenSegment5 w => exact .inl ⟨.output (.segment 4), w, rfl⟩
  | frameSixteenSegment6 w => exact .inl ⟨.output (.segment 5), w, rfl⟩
  | frameSixteenSegment7 w => exact .inl ⟨.output (.segment 6), w, rfl⟩
  | frameSixteenSegment8 w => exact .inl ⟨.output (.segment 7), w, rfl⟩
  | frameSixteenSegment9 w => exact .inl ⟨.output (.segment 8), w, rfl⟩
  | frameSpotlights w => exact .inl ⟨.output .spotlights, w, rfl⟩
  | frameNeon w => exact .inl ⟨.output .neon, w, rfl⟩
  | frameUnassigned a w => exact .inr ⟨a, w, rfl⟩
  | _ => cases h

/-- Decode after encode is the identity on well-formed frames: the address byte selects the frame's register again, and a
well-formed unassigned frame's selects none. -/
theorem decodeFrame_of_encode {i : Instr} {f : FrameWord} (wf : i.wellFormed = true) (h : encode i = some f) :
    decodeFrame f = i := by
  rcases exists_frame_of_encode h with ⟨r, w, rfl⟩ | ⟨a, w, rfl⟩
  · rw [encode_frameOf, Option.some_inj] at h
    rw [← h, decodeFrame_append, regAt_tableAddr, Option.elim_some]
  · have none_selected : regAt a = none := Option.isNone_iff_eq_none.mp wf
    have word : a ++ w = f := Option.some_inj.mp h
    rw [← word, decodeFrame_append, none_selected, Option.elim_none]

/-- The two bytes of a frame word decode to its frame. -/
theorem decode_frameBytes (f : FrameWord) : decode [frameAddr f, frameData f] = .instr (decodeFrame f) := by
  rw [decode, frameAddr_append_frameData]

/-- Settles O2: both forms of decoding are `decodeFrame` of the word. -/
theorem everyFrameDecodesBack : Obligations.EveryFrameDecodesBack := by
  intro i f wf h
  have back := decodeFrame_of_encode wf h
  refine ⟨back, ?_, ?_⟩
  · rw [encodeBytes, h, Option.map_some]
  · rw [decode_frameBytes, back]

/-! ### Encoding a decoded word -/

theorem encode_decodeFrame (f : FrameWord) : encode (decodeFrame f) = some f := by
  unfold decodeFrame
  split
  next r selected => rw [encode_frameOf, tableAddr_eq_of_regAt selected, frameAddr_append_frameData]
  next => exact congrArg some (frameAddr_append_frameData f)

theorem wellFormed_decodeFrame (f : FrameWord) : (decodeFrame f).wellFormed = true := by
  unfold decodeFrame
  split
  next r _ => exact frameOf_wellFormed r _
  next selected => exact Option.isNone_iff_eq_none.mpr selected

theorem decode_of_length_lt_two {bs : List Byte} (h : bs.length < 2) : decode bs = .rejected .truncated := by
  match bs, h with
  | [], _ => rfl
  | [_], _ => rfl

theorem decode_of_two_lt_length {bs : List Byte} (h : 2 < bs.length) : decode bs = .rejected .trailing := by
  match bs, h with
  | _ :: _ :: _ :: _, _ => rfl

/-- Settles O3. -/
theorem everyFrameWordIsOneFrame : Obligations.EveryFrameWordIsOneFrame :=
  ⟨fun f => ⟨encode_decodeFrame f, wellFormed_decodeFrame f⟩,
    fun _ => ⟨decode_of_length_lt_two, decode_of_two_lt_length⟩⟩

/-- Settles O1: seven fixed words, evaluated. -/
theorem specFrameWordsDecode : Obligations.SpecFrameWordsDecode := by
  unfold Obligations.SpecFrameWordsDecode
  decide

/-! ### Steps that run a request -/

theorem step_of_requests_cons {s : State} {q : Request} {rest : List Request} (h : s.requests = q :: rest) :
    step s = exec q.instr { s with requests := rest } := by
  rw [step, h]

theorem step_of_requests_nil {s : State} (h : s.requests = []) : step s = .next s := by
  rw [step, h]

theorem tableFrame_sixteen (w : Nat) : tableFrame 16 w = BitVec.ofNat 16 w := by
  apply BitVec.eq_of_toNat_eq
  simp [tableFrame]

/-- Settles O7: `withFetchWord` puts the word in front of the requests, and the step takes it off again. -/
theorem stepRunsFrameWord : Obligations.StepRunsFrameWord := by
  refine ⟨fun s f rest h => step_of_requests_cons h, fun s w => ?_⟩
  have front : (s.withFetchWord 16 w).requests = .frame (tableFrame 16 w) :: s.requests := rfl
  rw [step_of_requests_cons front, tableFrame_sixteen]
  rfl

/-- Settles O8: each kind of request names its operation. -/
theorem stepRunsHostRequest : Obligations.StepRunsHostRequest := fun _ _ =>
  ⟨fun _ _ => step_of_requests_cons, fun _ _ => step_of_requests_cons, fun _ => step_of_requests_cons,
    fun _ _ => step_of_requests_cons, step_of_requests_cons, fun _ => step_of_requests_cons,
    fun _ => step_of_requests_cons, fun _ _ => step_of_requests_cons, fun _ => step_of_requests_cons,
    step_of_requests_nil⟩

end Sys2Proof.Machine
end

section
/-! The requests that make one transfer (spec/41_transfer.md, spec/30_encoding.md): the bus operations, the frames and the
pseudo-instructions, each by the request it stands for, in `READY` (rules R80 to R83) and outside it (rules R28, R125). -/

namespace Sys2Proof.Machine

/-! ### Each operation is a request -/

section
variable (s : State)

theorem exec_transfer (a d : Nat) : exec (.transfer a d) s = transferRequest a d s := rfl

theorem exec_readReg (r : RegName) : exec (.readReg r) s = readRequest r s := rfl

theorem exec_writeReg (r : RegName) (v : Nat) : exec (.writeReg r v) s = writeRequest r v s := rfl

theorem exec_tick : exec .tick s = whenReady s fun s => finish .done (busily tickBody s) := rfl

theorem exec_lamp (k : Fin 8) :
    exec (.lamp k) s = writeRequest (.output .spotlights) (bitAt true (spotPos k)).toNat s := rfl

theorem exec_seg (i : Fin 9) (code : Nat) : exec (.seg i code) s = writeRequest (.output (.segment i)) code s := rfl

theorem exec_neon (on : Bool) : exec (.neon on) s = writeRequest (.output .neon) (neonEncode s.cfg on).toNat s := rfl

theorem exec_frameOf_input (r : InputReg) (w : Byte) : exec (frameOf (.input r) w) s = inputFrame r w s := by
  cases r <;> rfl

theorem exec_frameOf_output (r : OutputReg) (w : Byte) : exec (frameOf (.output r) w) s = outputFrame r w s := by
  cases r with
  | segment i => fin_cases i <;> rfl
  | buttonLamps => rfl
  | spotlights => rfl
  | neon => rfl

theorem exec_frameUnassigned (a w : Byte) :
    exec (.frameUnassigned a w) s = transferRequest a.toNat (wireData s.cfg w).toNat s := rfl

end

/-! ### In `READY` -/

theorem writeRequest_byte {s : State} (r : OutputReg) (b : Byte) (h : s.mode = .ready) :
    writeRequest (.output r) b.toNat s = .next { afterTransfer (tableAddr (.output r)) b s with reply := .done } := by
  rw [writeRequest_ready r h (Nat.le_of_lt_succ b.isLt), BitVec.ofNat_toNat, BitVec.setWidth_eq]

/-- Settles O17. -/
theorem transferCompletes : Obligations.TransferCompletes := by
  intro s a d h ha hd
  rw [exec_transfer, transferRequest_ready h ha hd]

/-- Settles O23: the map's address of a register is its `tableAddr`. -/
theorem readRegReadsAndSnapshots : Obligations.ReadRegReadsAndSnapshots := by
  intro s r a h hmem
  rw [exec_readReg, readRequest_ready r h, tableAddr_of_mem_addressMap _ hmem]

/-- Settles O24. -/
theorem writeRegSendsOneFrame : Obligations.WriteRegSendsOneFrame := by
  intro s r a v h hmem hv
  rw [exec_writeReg, writeRequest_ready r h hv, tableAddr_of_mem_addressMap _ hmem]

/-- Settles O50: `LAMP` and `NEON` write a byte with one bit, and every one writes to its register's table address. -/
theorem pseudoInstructionsWrite : Obligations.PseudoInstructionsWrite := by
  refine fun s h => ⟨fun k => ?_, fun i a code hmem hcode => ?_, fun on => ?_⟩
  · rw [exec_lamp, writeRequest_byte _ _ h]
    rfl
  · rw [exec_seg, writeRequest_ready _ h hcode, tableAddr_of_mem_addressMap _ hmem]
  · rw [exec_neon, writeRequest_byte _ _ h]
    rfl

/-! ### Refusals in `READY` (rules R80, R81, R83) -/

theorem transferRequest_out_of_range {s : State} {a d : Nat} (h : s.mode = .ready) (out : 0xFF < a ∨ 0xFF < d) :
    transferRequest a d s = .next { s with reply := .refused .argRange } := by
  rw [transferRequest, whenReady_of_ready _ h, if_pos out, refuse_eq]

theorem readRequest_output {s : State} (r : OutputReg) (h : s.mode = .ready) :
    readRequest (.output r) s = .next { s with reply := .refused .direction } := by
  rw [readRequest, whenReady_of_ready _ h, refuse_eq]

theorem writeRequest_input {s : State} (r : InputReg) (v : Nat) (h : s.mode = .ready) :
    writeRequest (.input r) v s = .next { s with reply := .refused .direction } := by
  rw [writeRequest, whenReady_of_ready _ h, refuse_eq]

theorem writeRequest_out_of_range {s : State} (r : OutputReg) {v : Nat} (h : s.mode = .ready) (out : 0xFF < v) :
    writeRequest (.output r) v s = .next { s with reply := .refused .argRange } := by
  simp only [writeRequest, whenReady_of_ready _ h, if_pos out, refuse_eq]

/-- Settles O25: an input register's write is refused for its direction whatever the value is. -/
theorem badArgumentsRefused : Obligations.BadArgumentsRefused := fun _ h =>
  ⟨fun r => readRequest_output r h, fun r v => writeRequest_input r v h, fun r _ out => writeRequest_out_of_range r h out,
    fun _ _ out => transferRequest_out_of_range h out, fun i _ out => writeRequest_out_of_range (.segment i) h out⟩

/-! ### Refusals outside `READY` (rules R28, R125) -/

section
variable {s : State} (h : s.mode ≠ .ready)
include h

theorem transferRequest_not_ready (a d : Nat) :
    transferRequest a d s = .next { s with reply := .refused .notReady } := whenReady_of_not_ready _ h

theorem readRequest_not_ready (r : RegName) :
    readRequest r s = .next { s with reply := .refused .notReady } := whenReady_of_not_ready _ h

theorem writeRequest_not_ready (r : RegName) (v : Nat) :
    writeRequest r v s = .next { s with reply := .refused .notReady } := whenReady_of_not_ready _ h

theorem inputFrame_not_ready (r : InputReg) (w : Byte) :
    inputFrame r w s = .next { s with reply := .refused .notReady } := by
  unfold inputFrame
  split
  · exact readRequest_not_ready h _
  · exact transferRequest_not_ready h _ _

theorem exec_decodeFrame_not_ready (f : FrameWord) :
    exec (decodeFrame f) s = .next { s with reply := .refused .notReady } := by
  unfold decodeFrame
  split
  next r _ =>
    cases r with
    | input r => rw [exec_frameOf_input, inputFrame_not_ready h]
    | output r => rw [exec_frameOf_output, outputFrame, writeRequest_not_ready h]
  next => rw [exec_frameUnassigned, transferRequest_not_ready h]

end

/-- Settles O26: each operation is one of the three requests or a tick, which test the mode first. -/
theorem notReadyRefuses : Obligations.NotReadyRefuses := by
  intro s i h hi
  rcases hi with ⟨a, d, rfl⟩ | ⟨r, rfl⟩ | ⟨r, v, rfl⟩ | rfl | ⟨k, rfl⟩ | ⟨c, v, rfl⟩ | ⟨b, rfl⟩ | ⟨f, rfl⟩
  · exact transferRequest_not_ready h a d
  · exact readRequest_not_ready h r
  · exact writeRequest_not_ready h r v
  · rw [exec_tick, whenReady_of_not_ready _ h]
  · rw [exec_lamp, writeRequest_not_ready h]
  · rw [exec_seg, writeRequest_not_ready h]
  · rw [exec_neon, writeRequest_not_ready h]
  · exact exec_decodeFrame_not_ready h f

/-! ### Frames in `READY` (assumption log 6) -/

/-- The request for a transfer whose wire data byte is to be `w`. -/
theorem transferRequest_wire {s : State} (a w : Byte) (h : s.mode = .ready) :
    transferRequest a.toNat (wireData s.cfg w).toNat s =
      .next { afterTransfer a (wireData s.cfg w) s with reply := .rxAck (s.rxFrom 0) (s.ackFrom 0) } :=
  exec_transfer_ready a (wireData s.cfg w) h

theorem inputFrame_ready {s : State} (r : InputReg) (w : Byte) (h : s.mode = .ready) :
    inputFrame r w s = .next
      (if w = wireData s.cfg 0x00 then
        { (afterTransfer (tableAddr (.input r)) 0x00 s).setSnapshot r (s.rxFrom 0) with reply := .byte (s.rxFrom 0) }
      else
        { afterTransfer (tableAddr (.input r)) (wireData s.cfg w) s with
          reply := .rxAck (s.rxFrom 0) (s.ackFrom 0) }) := by
  by_cases filler : w = wireData s.cfg 0x00
  · rw [if_pos filler, inputFrame, if_pos (show w = wireData s.cfg readFiller from filler), readRequest_ready r h]
  · rw [if_neg filler, inputFrame, if_neg (show ¬ w = wireData s.cfg readFiller from filler), transferRequest_wire _ w h]

theorem outputFrame_ready {s : State} (r : OutputReg) (w : Byte) (h : s.mode = .ready) :
    outputFrame r w s =
      .next { afterTransfer (tableAddr (.output r)) (wireData s.cfg w) s with reply := .done } := by
  rw [outputFrame, writeRequest_byte _ _ h]

/-- The listed frames of the input registers are those of `frameOf`, at the table addresses. -/
theorem frameOf_of_mem_inputFrames {r : InputReg} {a : Byte} {F : Byte → Instr} (h : (r, a, F) ∈ inputFrames) :
    F = frameOf (.input r) ∧ a = tableAddr (.input r) := by
  simp only [inputFrames, List.mem_cons, List.not_mem_nil, or_false, Prod.mk.injEq] at h
  rcases h with ⟨rfl, rfl, rfl⟩ | ⟨rfl, rfl, rfl⟩ | ⟨rfl, rfl, rfl⟩ | ⟨rfl, rfl, rfl⟩ | ⟨rfl, rfl, rfl⟩
    | ⟨rfl, rfl, rfl⟩ <;> exact ⟨rfl, rfl⟩

/-- The listed frames of the output registers are those of `frameOf`, at the table addresses. -/
theorem frameOf_of_mem_outputFrames {r : OutputReg} {a : Byte} {F : Byte → Instr} (h : (r, a, F) ∈ outputFrames) :
    F = frameOf (.output r) ∧ a = tableAddr (.output r) := by
  simp only [outputFrames, List.mem_cons, List.not_mem_nil, or_false, Prod.mk.injEq] at h
  rcases h with ⟨rfl, rfl, rfl⟩ | ⟨rfl, rfl, rfl⟩ | ⟨rfl, rfl, rfl⟩ | ⟨rfl, rfl, rfl⟩ | ⟨rfl, rfl, rfl⟩
    | ⟨rfl, rfl, rfl⟩ | ⟨rfl, rfl, rfl⟩ | ⟨rfl, rfl, rfl⟩ | ⟨rfl, rfl, rfl⟩ | ⟨rfl, rfl, rfl⟩ | ⟨rfl, rfl, rfl⟩
    | ⟨rfl, rfl, rfl⟩ <;> exact ⟨rfl, rfl⟩

/-- Settles O27. -/
theorem inputFrameReadsOrTransfers : Obligations.InputFrameReadsOrTransfers := by
  intro r a F hmem s w h
  obtain ⟨rfl, rfl⟩ := frameOf_of_mem_inputFrames hmem
  rw [exec_frameOf_input, inputFrame_ready r w h]

/-- Settles O28: an output register's frame is the write request itself. -/
theorem outputFrameWrites : Obligations.OutputFrameWrites := by
  intro r a F hmem s w h
  obtain ⟨rfl, rfl⟩ := frameOf_of_mem_outputFrames hmem
  rw [exec_frameOf_output, exec_writeReg]
  exact ⟨outputFrame_ready r w h, rfl⟩

/-- Settles O29. -/
theorem unassignedFrameTransfers : Obligations.UnassignedFrameTransfers :=
  fun _ a w h => transferRequest_wire a w h

/-! ### A frame word on the wire (rules R48, R62) -/

/-- `t` is where one transfer of `a` and `d` from `s` leads as far as the bus shows it, whatever else was stored. -/
def Sent (a d : Byte) (s t : State) : Prop :=
  t.txAddr = wireAddr s.cfg a ∧ t.txData = wireData s.cfg d ∧ t.trace = s.trace ++ s.framesFrom 0 a d

theorem sent_afterTransfer (a d : Byte) (s : State) (r : Reply) : Sent a d s { afterTransfer a d s with reply := r } :=
  ⟨rfl, rfl, trace_afterTransfer a d s r⟩

theorem sent_setSnapshot_afterTransfer (a d : Byte) (s : State) (q : InputReg) (b : Byte) (r : Reply) :
    Sent a d s { (afterTransfer a d s).setSnapshot q b with reply := r } := by
  refine ⟨State.setSnapshot_txAddr _ q b, State.setSnapshot_txData _ q b, ?_⟩
  rw [← trace_afterTransfer a d s r]
  exact congrArg List.reverse (State.setSnapshot_events _ q b)

/-- Every frame word makes one transfer of its address byte, with the data byte whose wire byte is its second. -/
theorem exec_decodeFrame_sent {s : State} (f : FrameWord) (h : s.mode = .ready) :
    ∃ t, exec (decodeFrame f) s = .next t ∧ Sent (frameAddr f) (wireData s.cfg (frameData f)) s t := by
  unfold decodeFrame
  split
  next r selected =>
    rw [← tableAddr_eq_of_regAt selected]
    cases r with
    | input r =>
      refine ⟨_, (exec_frameOf_input s r _).trans (inputFrame_ready r _ h), ?_⟩
      split
      next filler =>
        rw [filler, wireData_wireData]
        exact sent_setSnapshot_afterTransfer ..
      next => exact sent_afterTransfer ..
    | output r => exact ⟨_, (exec_frameOf_output s r _).trans (outputFrame_ready r _ h), sent_afterTransfer ..⟩
  next => exact ⟨_, transferRequest_wire _ _ h, sent_afterTransfer ..⟩

/-- Settles O30: the wire bytes of the transfer made are the word's own two. -/
theorem frameWordGoesOnTheWire : Obligations.FrameWordGoesOnTheWire := by
  intro s f h kept
  obtain ⟨t, ran, addr, data, grown⟩ := exec_decodeFrame_sent f h
  rw [kept] at addr
  rw [wireData_wireData] at data
  rw [State.framesFrom, kept, wireData_wireData] at grown
  exact ⟨t, ran, addr, data, grown⟩

end Sys2Proof.Machine
end

section
/-! The acknowledgment and the tick: two transfers that differ in the acknowledgment sample (spec/41_transfer.md rule R78), and
a tick as its 17 transfers (spec/43_poll_cycle.md rules R99 to R103). -/

namespace Sys2Proof.Machine

/-! ### The acknowledgment sample (rules R77, R78) -/

/-- `s` with the samples to come scripted as `xs`. -/
def State.scripted (s : State) (xs : List Bool) : State := { s with dataIn := { s.dataIn with script := xs } }

/-- What follows the acknowledgment sample in the trace of a transfer of data byte `d`. -/
def State.eventsAfterAck (s : State) (d : Byte) : List Event :=
  dataEvents s.cfg.bitDelay (wireData s.cfg d) (fun k => s.sampleAt (0 + 1 + k)) ++ [.en true]

section
variable (s : State) (a d : Byte) (v v' : Bool) (xs : List Bool)

theorem sampleAt_scripted_cons_zero : (s.scripted (v :: xs)).sampleAt 0 = v := rfl

/-- The samples after the first do not depend on it. -/
theorem sampleAt_scripted_cons_succ (k : Nat) :
    (s.scripted (v' :: xs)).sampleAt (0 + 1 + k) = (s.scripted (v :: xs)).sampleAt (0 + 1 + k) := by
  rw [Nat.zero_add, Nat.add_comm]
  rfl

/-- The byte received takes no bit from the acknowledgment sample. -/
theorem rxFrom_scripted_cons : (s.scripted (v' :: xs)).rxFrom 0 = (s.scripted (v :: xs)).rxFrom 0 := by
  simp only [State.rxFrom, sampleAt_scripted_cons_succ s v v']
  rfl

theorem eventsAfterAck_scripted_cons :
    (s.scripted (v' :: xs)).eventsAfterAck d = (s.scripted (v :: xs)).eventsAfterAck d := by
  simp only [State.eventsAfterAck, sampleAt_scripted_cons_succ s v v']
  rfl

theorem length_eventsAfterAck : (s.eventsAfterAck d).length = 49 := by
  rw [State.eventsAfterAck, List.length_append, length_dataEvents, List.length_singleton]

/-- The trace of a transfer around its acknowledgment sample. -/
theorem trace_afterTransfer_scripted (r : Reply) :
    ({ afterTransfer a d (s.scripted (v :: xs)) with reply := r } : State).trace =
      s.trace ++ ([.en false] ++ addrEvents s.cfg.bitDelay (wireAddr s.cfg a)) ++ [.sample v]
        ++ (s.scripted (v :: xs)).eventsAfterAck d := by
  rw [trace_afterTransfer, State.framesFrom, transferEvents, sampleAt_scripted_cons_zero, State.eventsAfterAck]
  simp only [List.append_assoc]
  rfl

/-- What the second of two transfers that differ in the acknowledgment sample leaves, by what the first left. -/
theorem afterTransfer_scripted_cons :
    afterTransfer a d (s.scripted (v' :: xs)) =
      { afterTransfer a d (s.scripted (v :: xs)) with
        ack := !v', lastAck := some (!v'), events := (afterTransfer a d (s.scripted (v' :: xs))).events } := by
  simp only [afterTransfer, rxFrom_scripted_cons s v v' xs]
  rfl

end

/-- Settles O19: the two runs' results differ as `afterTransfer_scripted_cons` says, and their traces only between the address
phase and what follows the sample. -/
theorem absentAckChangesOnlyTheFlag : Obligations.AbsentAckChangesOnlyTheFlag := by
  intro s a d v v' xs h
  refine ⟨_, _, exec_transfer_ready (s := s.scripted (v :: xs)) a d h,
    exec_transfer_ready (s := s.scripted (v' :: xs)) a d h, rfl, rfl, rfl, ?_,
    [.en false] ++ addrEvents s.cfg.bitDelay (wireAddr s.cfg a), (s.scripted (v :: xs)).eventsAfterAck d, rfl,
    length_eventsAfterAck _ d, trace_afterTransfer_scripted s a d v xs _, ?_⟩
  · rw [rxFrom_scripted_cons s v v', afterTransfer_scripted_cons s a d v v']
    rfl
  · rw [trace_afterTransfer_scripted, eventsAfterAck_scripted_cons s d v v']

/-! ### The draws after `m` samples -/

section
variable {s t : State} {m : Nat}

theorem sampleAt_of_dataIn_skip (h : t.dataIn = s.dataIn.skip m) (k : Nat) : t.sampleAt k = s.sampleAt (m + k) := by
  rw [State.sampleAt, h, Draws.peek_skip, State.sampleAt]

theorem rxFrom_of_dataIn_skip (hc : t.cfg = s.cfg) (h : t.dataIn = s.dataIn.skip m) (n : Nat) :
    t.rxFrom n = s.rxFrom (m + n) := by
  simp only [State.rxFrom, hc, sampleAt_of_dataIn_skip h, Nat.add_assoc]

theorem ackFrom_of_dataIn_skip (h : t.dataIn = s.dataIn.skip m) (n : Nat) : t.ackFrom n = s.ackFrom (m + n) := by
  rw [State.ackFrom, sampleAt_of_dataIn_skip h, State.ackFrom]

theorem pollEvents_of_dataIn_skip (hc : t.cfg = s.cfg) (h : t.dataIn = s.dataIn.skip m) (rows : List (Byte × Byte))
    (n : Nat) : t.pollEvents n rows = s.pollEvents (m + n) rows := by
  induction rows generalizing n with
  | nil => rfl
  | cons row rows ih =>
    simp only [State.pollEvents, State.framesFrom, hc, sampleAt_of_dataIn_skip h, ih, Nat.add_assoc]

end

theorem pollEvents_append (s : State) (n : Nat) (rows rows' : List (Byte × Byte)) :
    s.pollEvents n (rows ++ rows') = s.pollEvents n rows ++ s.pollEvents (n + 9 * rows.length) rows' := by
  induction rows generalizing n with
  | nil => rfl
  | cons row rows ih =>
    simp only [List.cons_append, State.pollEvents, ih, List.append_assoc, List.length_cons, Nat.mul_succ,
      Nat.add_comm 9, Nat.add_assoc]

/-! ### The body of a tick (rules R99, R100) -/

/-- The rows of a tick: the six reads, the two lamp writes, and the nine cells', which do not depend on the index. -/
theorem pollRows_eq_append (c : Cfg) (k : Fin 8) (cursor : Nat) :
    pollRows c k cursor = [(0x07, 0), (0x0F, 0), (0x17, 0), (0x1F, 0), (0x27, 0), (0x2F, 0)]
      ++ ([(0x87, spotByteOf k), (0x8F, neonByteOf c k)] ++ (pollRows c 0 cursor).drop 8) := rfl

/-- The first eight transfers of a tick, which leave the cursor to the text's part. -/
theorem tickLamps_tickReads_eq (s : State) :
    tickLamps (tickReads s) =
      { s with
        clk := .driven true, enN := .driven true
        dout := .driven ((wireData s.cfg (neonByteOf s.cfg (chased s (s.timeAt 0)).1)).getLsbD 0)
        phase := .idle, bitn := 0, txAddr := wireAddr s.cfg 0x8F
        txData := wireData s.cfg (neonByteOf s.cfg (chased s (s.timeAt 0)).1)
        rx := s.rxFrom 63, ack := s.ackFrom 63, lastRx := some (s.rxFrom 63), lastAck := some (s.ackFrom 63)
        snapButtons := some (s.rxFrom 0), snapTt1 := some (s.rxFrom 9), snapTt2 := some (s.rxFrom 18)
        snapVol12 := some (s.rxFrom 27), snapVol34 := some (s.rxFrom 36), snapVol5 := some (s.rxFrom 45)
        animIdx := (chased s (s.timeAt 0)).1, lastAnim := (chased s (s.timeAt 0)).2, time := s.time.skip 1
        seq := .transfer 7, dataIn := s.dataIn.skip 72
        events := (s.pollEvents 54 [(0x87, spotByteOf (chased s (s.timeAt 0)).1),
            (0x8F, neonByteOf s.cfg (chased s (s.timeAt 0)).1)]).reverse
          ++ ((s.pollEvents 0 [(0x07, 0), (0x0F, 0), (0x17, 0), (0x1F, 0), (0x27, 0), (0x2F, 0)]).reverse
            ++ s.events) } := by
  have hcfg : (tickReads s).cfg = s.cfg := by rw [tickReads_eq]
  have hdata : (tickReads s).dataIn = s.dataIn.skip 54 := by rw [tickReads_eq]
  have hchase : chased (tickReads s) ((tickReads s).timeAt 0) = chased s (s.timeAt 0) := by rw [tickReads_eq]; rfl
  rw [tickLamps_eq, hchase, hcfg, hdata, rxFrom_of_dataIn_skip hcfg hdata, ackFrom_of_dataIn_skip hdata,
    pollEvents_of_dataIn_skip hcfg hdata, Draws.skip_skip, tickReads_eq]

theorem length_pollRows (c : Cfg) (k : Fin 8) (cursor : Nat) : (pollRows c k cursor).length = 17 := rfl

/-- The body of a tick does all that `afterTick` says, in every mode. -/
theorem tickBody_eq (s : State) : tickBody s = afterTick s := by
  have hcfg : (tickLamps (tickReads s)).cfg = s.cfg := by rw [tickLamps_tickReads_eq]
  have hdata : (tickLamps (tickReads s)).dataIn = s.dataIn.skip 72 := by rw [tickLamps_tickReads_eq]
  have htime : (tickLamps (tickReads s)).timeAt 0 = s.timeAt 1 := by
    rw [tickLamps_tickReads_eq, State.timeAt, Draws.peek_skip]
    rfl
  have hscroll : scrolled (tickLamps (tickReads s)) (s.timeAt 1) = scrolled s (s.timeAt 1) := by
    rw [tickLamps_tickReads_eq]
    rfl
  have htrace (k : Fin 8) (cursor : Nat) :
      (s.pollEvents 0 (pollRows s.cfg k cursor)).reverse ++ s.events =
        (s.pollEvents 72 ((pollRows s.cfg 0 cursor).drop 8)).reverse
          ++ ((s.pollEvents 54 [(0x87, spotByteOf k), (0x8F, neonByteOf s.cfg k)]).reverse
            ++ ((s.pollEvents 0 [(0x07, 0), (0x0F, 0), (0x17, 0), (0x1F, 0), (0x27, 0), (0x2F, 0)]).reverse
              ++ s.events)) := by
    rw [pollRows_eq_append s.cfg k, pollEvents_append, pollEvents_append]
    simp only [List.reverse_append, List.append_assoc, List.length_cons, List.length_nil, Nat.reduceAdd, Nat.reduceMul]
  rw [tickBody, tickText_eq, htime, hscroll, hcfg, hdata, rxFrom_of_dataIn_skip hcfg hdata,
    ackFrom_of_dataIn_skip hdata, pollEvents_of_dataIn_skip hcfg hdata, Draws.skip_skip, tickLamps_tickReads_eq,
    Draws.skip_skip, afterTick, htrace]

/-- The mode a tick runs under is not read. -/
theorem afterTick_mode (s : State) (m : Mode) : afterTick { s with mode := m } = { afterTick s with mode := m } := rfl

theorem busily_tickBody {s : State} (h : s.mode = .ready) : busily tickBody s = afterTick s := by
  simp only [busily, tickBody_eq, afterTick_mode]
  simp only [afterTick, h]

/-- Settles O37. -/
theorem tickRunsThePoll : Obligations.TickRunsThePoll := by
  intro s h
  rw [exec_tick, whenReady_of_ready _ h, finish_eq, busily_tickBody h]

/-! ### The trace of a tick (rule R103) -/

/-- The traces of the transfers that `State.pollEvents` joins. -/
def State.pollFrames (s : State) : Nat → List (Byte × Byte) → List (List Event)
  | _, [] => []
  | n, (a, d) :: rows => s.framesFrom n a d :: s.pollFrames (n + 9) rows

theorem flatten_pollFrames (s : State) (n : Nat) (rows : List (Byte × Byte)) :
    (s.pollFrames n rows).flatten = s.pollEvents n rows := by
  induction rows generalizing n with
  | nil => rfl
  | cons row rows ih => rw [State.pollFrames, List.flatten_cons, ih, State.pollEvents]

theorem length_pollFrames (s : State) (n : Nat) (rows : List (Byte × Byte)) :
    (s.pollFrames n rows).length = rows.length := by
  induction rows generalizing n with
  | nil => rfl
  | cons row rows ih => rw [State.pollFrames, List.length_cons, ih, List.length_cons]

/-- What holds of every transfer's trace holds of the frames. -/
theorem forall_mem_pollFrames {s : State} {P : List Event → Prop} (h : ∀ n a d, P (s.framesFrom n a d)) (n : Nat)
    (rows : List (Byte × Byte)) : ∀ E ∈ s.pollFrames n rows, P E := by
  induction rows generalizing n with
  | nil => simp [State.pollFrames]
  | cons row rows ih => exact List.forall_mem_cons.mpr ⟨h n row.1 row.2, ih (n + 9)⟩

/-- A number that is the same for every transfer's trace adds up to that many times the transfers. -/
theorem sum_map_pollFrames {s : State} {f : List Event → Nat} {k : Nat} (h : ∀ n a d, f (s.framesFrom n a d) = k)
    (n : Nat) (rows : List (Byte × Byte)) : ((s.pollFrames n rows).map f).sum = rows.length * k := by
  have each : ∀ x ∈ (s.pollFrames n rows).map f, x = k := List.forall_mem_map.mpr (forall_mem_pollFrames h n rows)
  rw [List.sum_eq_card_nsmul _ _ each, List.length_map, length_pollFrames, smul_eq_mul]

/-- A transfer asserts Enable once. -/
theorem countP_en_false_transferEvents (T : Nat) (A W : Byte) (v : Bool) (x : Nat → Bool) :
    (transferEvents T A W v x).countP (· == .en false) = 1 := by
  have addr := countP_addrEvents (p := (· == .en false)) (T := T) (n := 0) (fun _ => rfl) A
  have data := countP_dataEvents (p := (· == .en false)) (T := T) (n := 0) (m := 0) (fun _ => rfl) (fun _ => rfl) W x
  simp only [transferEvents, List.countP_append, addr, data]
  rfl

/-- Settles O38: the counts are 17 times those of one transfer. -/
theorem tickTraceIsSeventeenFrames : Obligations.TickTraceIsSeventeenFrames := by
  intro s h
  refine ⟨_, s.pollFrames 0 (pollRows s.cfg (chased s (s.timeAt 0)).1 (scrolled s (s.timeAt 1)).1), tickRunsThePoll s h,
    ?_, ?_, ?_, ?_, ?_, ?_, ?_⟩
  · simp only [State.trace, afterTick, List.reverse_append, List.reverse_reverse, flatten_pollFrames]
  · rw [length_pollFrames, length_pollRows]
  · exact forall_mem_pollFrames (fun n a d => ⟨length_transferEvents .., head?_transferEvents .., getLast?_transferEvents ..⟩)
      0 _
  · rw [List.length_flatten, sum_map_pollFrames fun n a d => length_transferEvents .., length_pollRows]
  · rw [List.countP_flatten, sum_map_pollFrames fun n a d => countP_en_false_transferEvents .., length_pollRows]
  · rw [List.countP_flatten, sum_map_pollFrames fun n a d => countP_sample_transferEvents .., length_pollRows]
  · rw [List.countP_flatten, sum_map_pollFrames fun n a d => countP_wait_transferEvents .., length_pollRows]

end Sys2Proof.Machine
end

section
/-! The invariant of the states between operations (spec/10_state.md section 6), kept by every operation but the bit primitives,
which no host can request (rule R61). -/

namespace Sys2Proof.Machine

/-! ### What keeps the invariant without an operation -/

namespace State.Inv
variable {s : State}

theorem setReply (h : s.Inv) (r : Reply) : ({ s with reply := r } : State).Inv :=
  ⟨h.notBusy, h.phaseIdle, h.seqIdle, h.lines, h.unconfigured, h.ready, h.faulted, h.started, h.results, h.lastScroll,
    h.lastAnim⟩

theorem setRequests (h : s.Inv) (rest : List Request) : ({ s with requests := rest } : State).Inv :=
  ⟨h.notBusy, h.phaseIdle, h.seqIdle, h.lines, h.unconfigured, h.ready, h.faulted, h.started, h.results, h.lastScroll,
    h.lastAnim⟩

/-- The invariant says nothing of the snapshots. -/
theorem setSnapshot (h : s.Inv) (q : InputReg) (b : Byte) : (s.setSnapshot q b).Inv := by
  cases q <;> exact ⟨h.notBusy, h.phaseIdle, h.seqIdle, h.lines, h.unconfigured, h.ready, h.faulted, h.started, h.results,
    h.lastScroll, h.lastAnim⟩

/-- The invariant of a state in `READY`: what it says of the other modes falls away. -/
theorem of_ready (mode : s.mode = .ready) (phaseIdle : s.phase = .idle) (seqIdle : s.seq = .idle) (lines : linesAtRest s)
    (fault : s.fault = none) (started : cfgValid s.cfg = true ∧ s.cursor < s.cfg.textLen)
    (results : s.lastRx.isSome = s.lastAck.isSome) (lastScroll : s.lastScroll < timeModulus s.cfg)
    (lastAnim : s.lastAnim < timeModulus s.cfg) : s.Inv where
  notBusy := by simp [mode]
  phaseIdle := phaseIdle
  seqIdle := seqIdle
  lines := .inl lines
  unconfigured h := by simp [mode] at h
  ready _ := fault
  faulted h := by simp [mode] at h
  started _ := started
  results := results
  lastScroll := lastScroll
  lastAnim := lastAnim

theorem started_of_ready (h : s.Inv) (mode : s.mode = .ready) : cfgValid s.cfg = true ∧ s.cursor < s.cfg.textLen :=
  h.started (by simp [mode])

end State.Inv

/-! ### What the shared operations do to it -/

section
variable {s : State} (hs : s.Inv)
include hs

theorem inv_afterTransfer (a d : Byte) (hm : s.mode = .ready) : (afterTransfer a d s).Inv :=
  .of_ready hm rfl hs.seqIdle ⟨rfl, rfl, by simp [afterTransfer]⟩ (hs.ready hm) (hs.started_of_ready hm) rfl hs.lastScroll
    hs.lastAnim

theorem lastScroll_scrollStep_lt (x : Nat) : (scrollStep x s).lastScroll < timeModulus s.cfg := by
  unfold scrollStep
  split
  · exact timeValue_lt s.cfg x
  · exact hs.lastScroll

theorem lastAnim_chaseStep_lt (x : Nat) : (chaseStep x s).lastAnim < timeModulus s.cfg := by
  unfold chaseStep
  split
  · exact timeValue_lt s.cfg x
  · exact hs.lastAnim

theorem inv_scrollStep (x : Nat) : (scrollStep x s).Inv where
  notBusy := by simpa using hs.notBusy
  phaseIdle := by simpa using hs.phaseIdle
  seqIdle := by simpa using hs.seqIdle
  lines := by simpa [linesAtRest, linesUndriven] using hs.lines
  unconfigured := by simpa [linesAtRest] using hs.unconfigured
  ready := by simpa using hs.ready
  faulted := by simpa using hs.faulted
  started hm := by
    obtain ⟨valid, inside⟩ := hs.started (by simpa using hm)
    simpa using ⟨valid, cursor_scrollStep_lt x inside⟩
  results := by simpa using hs.results
  lastScroll := by simpa using lastScroll_scrollStep_lt hs x
  lastAnim := by simpa using hs.lastAnim

theorem inv_chaseStep (x : Nat) : (chaseStep x s).Inv where
  notBusy := by simpa using hs.notBusy
  phaseIdle := by simpa using hs.phaseIdle
  seqIdle := by simpa using hs.seqIdle
  lines := by simpa [linesAtRest, linesUndriven] using hs.lines
  unconfigured := by simpa [linesAtRest] using hs.unconfigured
  ready := by simpa using hs.ready
  faulted := by simpa using hs.faulted
  started := by simpa using hs.started
  results := by simpa using hs.results
  lastScroll := by simpa using hs.lastScroll
  lastAnim := by simpa using lastAnim_chaseStep_lt hs x

/-- A tick's scheduler steps are `scrollStep` and `chaseStep` at its two time samples. -/
theorem inv_afterTick (hm : s.mode = .ready) : (afterTick s).Inv := by
  have scroll := scrollStep_eq (s.timeAt 1) s (timeValue_timeAt s 1)
  have chase := chaseStep_eq (s.timeAt 0) s (timeValue_timeAt s 0)
  obtain ⟨valid, inside⟩ := hs.started_of_ready hm
  have cursor := cursor_scrollStep_lt (s.timeAt 1) inside
  have lastScroll := lastScroll_scrollStep_lt hs (s.timeAt 1)
  have lastAnim := lastAnim_chaseStep_lt hs (s.timeAt 0)
  rw [scroll] at cursor lastScroll
  rw [chase] at lastAnim
  exact .of_ready hm rfl rfl ⟨rfl, rfl, by simp [afterTick]⟩ (hs.ready hm) ⟨valid, cursor⟩ rfl lastScroll lastAnim

theorem inv_unwritten (hm : s.mode = .ready) :
    ({ s with fault := some .unwritten, mode := .faulted } : State).Inv where
  notBusy := by simp
  phaseIdle := hs.phaseIdle
  seqIdle := hs.seqIdle
  lines := hs.lines.imp_right fun ⟨_, unconfigured, _⟩ => by simp [hm] at unconfigured
  unconfigured h := by simp at h
  ready h := by simp at h
  faulted _ := rfl
  started _ := hs.started_of_ready hm
  results := hs.results
  lastScroll := hs.lastScroll
  lastAnim := hs.lastAnim

end

/-- A reset makes the invariant true whatever was before. -/
theorem inv_of_restarted {cfg : Cfg} {t0 : Nat} {s t : State} (h : Restarted cfg t0 s t) : t.Inv := by
  obtain ⟨-, ht, ⟨valid, rfl⟩ | ⟨-, rfl⟩⟩ := h
  · obtain ⟨⟨nonempty, -⟩, -⟩ := (cfgValid_iff cfg).mp valid
    exact .of_ready rfl rfl rfl ⟨rfl, rfl, by simp⟩ rfl ⟨valid, nonempty⟩ rfl ht ht
  · exact {
      notBusy := by simp
      phaseIdle := rfl
      seqIdle := rfl
      lines := .inl ⟨rfl, rfl, by simp⟩
      unconfigured := fun _ _ => rfl
      ready := fun h => by simp at h
      faulted := fun h => by simp at h
      started := fun h => by simp at h
      results := rfl
      lastScroll := ht
      lastAnim := ht }

/-! ### Operations and steps -/

theorem exec_keeps_inv {i : Instr} {s t : State} (hi : ¬ isPrimitive i) (hs : s.Inv) (h : exec i s = .next t) : t.Inv := by
  cases exec_cases h with
  | answered h =>
    obtain ⟨r, rfl, -⟩ := h
    exact hs.setReply r
  | transferred h =>
    obtain ⟨hm, a, d, r, rfl, -, -⟩ := h
    exact (inv_afterTransfer hs a d hm).setReply r
  | read q _ h =>
    obtain ⟨hm, rfl⟩ := h
    exact ((inv_afterTransfer hs _ _ hm).setSnapshot q _).setReply _
  | restarted cfg t0 _ h => exact inv_of_restarted h
  | ticked _ hm h =>
    rw [h, busily_tickBody hm]
    exact (inv_afterTick hs hm).setReply _
  | unwritten f _ hm h =>
    rw [h]
    exact (inv_unwritten hs hm).setReply _
  | clocked primitive _ => exact absurd primitive hi
  | scrolled x _ h =>
    rw [h]
    exact (inv_scrollStep hs x).setReply _
  | chased x _ h =>
    rw [h]
    exact (inv_chaseStep hs x).setReply _

/-- A bit primitive has no encoding, so no frame word is one (rule R62). -/
theorem not_isPrimitive_of_encode {i : Instr} {f : FrameWord} (h : encode i = some f) : ¬ isPrimitive i := by
  intro primitive
  cases i with
  | writeBit b => cases h
  | readBit => cases h
  | xferBit b => cases h
  | sampleAck => cases h
  | _ => exact primitive

/-- The host cannot request a bit primitive (rule R61). -/
theorem not_isPrimitive_instr (q : Request) : ¬ isPrimitive q.instr := by
  cases q with
  | frame f => exact not_isPrimitive_of_encode (encode_decodeFrame f)
  | _ => exact not_false

/-- Settles O52: a step does nothing or runs a requested operation, and requests are not read by the invariant. -/
theorem stepKeepsInvariant : Obligations.StepKeepsInvariant := by
  intro s t hs h
  rcases step_cases h with ⟨-, rfl⟩ | ⟨q, rest, -, ran⟩
  · exact hs
  · exact exec_keeps_inv (not_isPrimitive_instr q) (hs.setRequests rest) ran

/-- Settles O51. -/
theorem resetStateHasInvariant : Obligations.ResetStateHasInvariant :=
  .of_ready rfl rfl rfl ⟨rfl, rfl, by decide⟩ rfl (by decide) rfl (by decide) (by decide)

end Sys2Proof.Machine
end

section
/-! Reset as an operation (spec/70_reset_and_hazards.md rule R135): its two accepted forms as whole states and its refusals. -/

namespace Sys2Proof.Machine

theorem exec_reset (cfg : Cfg) (t0 : Nat) (s : State) : exec (.reset cfg t0) s = execReset cfg t0 s := rfl

theorem execReset_of_busy {cfg : Cfg} {t0 : Nat} {s : State} (hb : s.mode = .busy) :
    execReset cfg t0 s = .next { s with reply := .refused .notReady } := by
  rw [execReset, if_pos hb, refuse_eq]

theorem execReset_of_wide_time {cfg : Cfg} {t0 : Nat} {s : State} (hb : s.mode ≠ .busy) (ht : timeModulus cfg ≤ t0) :
    execReset cfg t0 s = .next { s with reply := .refused .argRange } := by
  rw [execReset, if_neg hb, if_pos ht, refuse_eq]

/-- Settles O9: the assignments of the reset, then `READY`. -/
theorem resetStartsEngine : Obligations.ResetStartsEngine := by
  intro cfg t0 s hb ht hv
  rw [exec_reset, execReset_of_valid hb ht hv, resetCore_eq]

/-- Settles O10: the record is tested last. -/
theorem resetRejectsInvalidCfg : Obligations.ResetRejectsInvalidCfg := by
  refine ⟨fun cfg t0 s hb ht hv => ?_, fun cfg t0 s hb => execReset_of_busy hb,
    fun cfg t0 s hb ht => execReset_of_wide_time hb ht⟩
  rw [exec_reset, execReset_of_invalid hb ht (Bool.not_eq_true _ ▸ hv), resetCore_eq]

/-- Settles O12: the vector configuration is valid. -/
theorem resetStateIsAfterReset : Obligations.ResetStateIsAfterReset := by
  rw [Obligations.ResetStateIsAfterReset, exec_reset, execReset_of_valid (by decide) (by decide) (by decide), resetCore_eq]
  rfl

end Sys2Proof.Machine
end

section
/-! The whole machine: every operation answers (spec/60_exceptions.md rule R120), and what all of them leave alone, read off what
an operation did by `exec_cases`. -/

namespace Sys2Proof.Machine

/-! ### Every operation answers a next state (assumption log 4) -/

/-- The outcome is a next state. -/
def Answers (o : Host.Outcome State Fault Refusal) : Prop := ∃ t, o = .next t

theorem answers_finish (r : Reply) (s : State) : Answers (finish r s) := ⟨_, finish_eq r s⟩

theorem answers_refuse (q : RefuseReason) (s : State) : Answers (refuse q s) := ⟨_, refuse_eq q s⟩

theorem answers_whenReady {k : State → Host.Outcome State Fault Refusal} {s : State} (h : Answers (k s)) :
    Answers (whenReady s k) := by
  unfold whenReady
  split
  · exact h
  · exact answers_refuse ..

theorem answers_transferRequest (a d : Nat) (s : State) : Answers (transferRequest a d s) := by
  apply answers_whenReady
  split
  · exact answers_refuse ..
  · exact answers_finish ..

theorem answers_readRequest (r : RegName) (s : State) : Answers (readRequest r s) := by
  apply answers_whenReady
  cases r with
  | input r => exact answers_finish ..
  | output r => exact answers_refuse ..

theorem answers_writeRequest (r : RegName) (v : Nat) (s : State) : Answers (writeRequest r v s) := by
  apply answers_whenReady
  cases r with
  | input r => exact answers_refuse ..
  | output r =>
    dsimp only
    split
    · exact answers_refuse ..
    · exact answers_finish ..

theorem answers_inputFrame (r : InputReg) (w : Byte) (s : State) : Answers (inputFrame r w s) := by
  unfold inputFrame
  split
  · exact answers_readRequest ..
  · exact answers_transferRequest ..

theorem answers_outputFrame (r : OutputReg) (w : Byte) (s : State) : Answers (outputFrame r w s) :=
  answers_writeRequest ..

theorem answers_execTick (s : State) : Answers (execTick s) := answers_whenReady (answers_finish ..)

theorem answers_execReset (cfg : Cfg) (t0 : Nat) (s : State) : Answers (execReset cfg t0 s) := by
  by_cases hb : s.mode = .busy
  · exact ⟨_, execReset_of_busy hb⟩
  · by_cases ht : timeModulus cfg ≤ t0
    · exact ⟨_, execReset_of_wide_time hb ht⟩
    · by_cases hv : cfgValid cfg = true
      · exact ⟨_, execReset_of_valid hb (Nat.lt_of_not_le ht) hv⟩
      · exact ⟨_, execReset_of_invalid hb (Nat.lt_of_not_le ht) hv⟩

theorem answers_execPeek (f : PeekField) (s : State) : Answers (execPeek f s) := by
  unfold execPeek
  split
  · exact answers_refuse ..
  · split
    · exact answers_refuse ..
    · split
      · exact answers_whenReady (answers_refuse ..)
      · exact answers_finish ..
      · exact answers_whenReady (answers_finish ..)
      · exact answers_whenReady ⟨_, raiseFault_eq .unwritten s⟩

theorem answers_execEncodeSlider (first second : Nat) (s : State) : Answers (execEncodeSlider first second s) := by
  unfold execEncodeSlider
  split
  · exact answers_refuse ..
  · exact answers_finish ..

theorem answers_exec (i : Instr) (s : State) : Answers (exec i s) := by
  cases i with
  | frameButtons w => exact answers_inputFrame ..
  | frameTurntableP1 w => exact answers_inputFrame ..
  | frameTurntableP2 w => exact answers_inputFrame ..
  | frameVolumePair12 w => exact answers_inputFrame ..
  | frameVolumePair34 w => exact answers_inputFrame ..
  | frameVolume5 w => exact answers_inputFrame ..
  | frameButtonLamps w => exact answers_outputFrame ..
  | frameSixteenSegment1 w => exact answers_outputFrame ..
  | frameSixteenSegment2 w => exact answers_outputFrame ..
  | frameSixteenSegment3 w => exact answers_outputFrame ..
  | frameSixteenSegment4 w => exact answers_outputFrame ..
  | frameSixteenSegment5 w => exact answers_outputFrame ..
  | frameSixteenSegment6 w => exact answers_outputFrame ..
  | frameSixteenSegment7 w => exact answers_outputFrame ..
  | frameSixteenSegment8 w => exact answers_outputFrame ..
  | frameSixteenSegment9 w => exact answers_outputFrame ..
  | frameSpotlights w => exact answers_outputFrame ..
  | frameNeon w => exact answers_outputFrame ..
  | frameUnassigned a w => exact answers_transferRequest ..
  | reset cfg t0 => exact answers_execReset ..
  | transfer a d => exact answers_transferRequest ..
  | readReg r => exact answers_readRequest ..
  | writeReg r v => exact answers_writeRequest ..
  | tick => exact answers_execTick s
  | peek f => exact answers_execPeek ..
  | encodeSlider first second => exact answers_execEncodeSlider ..
  | lamp k => exact exec_lamp s k ▸ answers_writeRequest ..
  | seg c v => exact exec_seg s c v ▸ answers_writeRequest ..
  | neon on => exact exec_neon s on ▸ answers_writeRequest ..
  | _ => exact answers_finish ..

/-- Settles O53. -/
theorem engineNeverStops : Obligations.EngineNeverStops := by
  refine ⟨answers_exec, fun s => ?_⟩
  cases waiting : s.requests with
  | nil => exact ⟨s, step_of_requests_nil waiting⟩
  | cons q rest =>
    rw [step_of_requests_cons waiting]
    exact answers_exec q.instr _

/-! ### The configuration (rule R138) -/

theorem exec_keeps_cfg {i : Instr} {s t : State} (hi : ∀ cfg t0, i ≠ .reset cfg t0) (h : exec i s = .next t) :
    t.cfg = s.cfg := by
  cases exec_cases h with
  | answered h =>
    obtain ⟨r, rfl, -⟩ := h
    rfl
  | transferred h =>
    obtain ⟨-, a, d, r, rfl, -, -⟩ := h
    rfl
  | read q _ h =>
    obtain ⟨-, rfl⟩ := h
    exact State.setSnapshot_cfg _ q _
  | restarted cfg t0 hreset _ => exact absurd hreset (hi cfg t0)
  | ticked _ hm h =>
    rw [h, busily_tickBody hm]
    rfl
  | unwritten f _ _ h => rw [h]
  | clocked _ h =>
    obtain ⟨c, o, n, E, r, rfl, -, -⟩ := h
    rfl
  | scrolled x _ h =>
    rw [h]
    exact scrollStep_cfg s x
  | chased x _ h =>
    rw [h]
    exact chaseStep_cfg s x

/-- A reset that is accepted forgets every snapshot, with a valid record or not. -/
theorem snapshot_resetCore (cfg : Cfg) (t0 : Nat) (s : State) (r : InputReg) : (resetCore cfg t0 s).snapshot r = none := by
  cases r <;> rfl

/-- What an accepted reset latches and resets, the `CONFIG` error included. -/
theorem reset_values_of_restarted {cfg : Cfg} {t0 : Nat} {s t : State} (h : Restarted cfg t0 s t) :
    t.cfg = cfg ∧ t.cursor = 0 ∧ t.animIdx = 0 ∧ t.lastScroll = t0 ∧ t.lastAnim = t0
      ∧ ∀ r : InputReg, t.snapshot r = none := by
  obtain ⟨-, -, ⟨-, rfl⟩ | ⟨-, rfl⟩⟩ := h
  · exact ⟨rfl, rfl, rfl, rfl, rfl, snapshot_resetCore cfg t0 s⟩
  · exact ⟨rfl, rfl, rfl, rfl, rfl, snapshot_resetCore cfg t0 s⟩

/-- A reset is refused in `BUSY` and at a too wide time, and is accepted otherwise. -/
theorem exec_reset_cases {cfg : Cfg} {t0 : Nat} {s t : State} (h : exec (.reset cfg t0) s = .next t) :
    if s.mode = .busy ∨ timeModulus cfg ≤ t0 then Answered s t else Restarted cfg t0 s t := by
  rw [exec_reset] at h
  split
  next refused =>
    by_cases hb : s.mode = .busy
    · rw [execReset_of_busy hb] at h
      exact answered_of_eq (by simp) h
    · rw [execReset_of_wide_time hb (refused.resolve_left hb)] at h
      exact answered_of_eq (by simp) h
  next accepted =>
    obtain ⟨hb, ht⟩ := not_or.mp accepted
    have ht : t0 < timeModulus cfg := Nat.lt_of_not_le ht
    by_cases hv : cfgValid cfg = true
    · rw [execReset_of_valid hb ht hv] at h
      injection h with h
      exact ⟨hb, ht, .inl ⟨hv, h.symm⟩⟩
    · rw [execReset_of_invalid hb ht hv] at h
      injection h with h
      exact ⟨hb, ht, .inr ⟨by simpa using hv, h.symm⟩⟩

/-- Settles O54. -/
theorem onlyResetChangesCfg : Obligations.OnlyResetChangesCfg := by
  intro i s t h
  by_cases hi : ∃ cfg t0, i = .reset cfg t0
  · obtain ⟨cfg, t0, rfl⟩ := hi
    refine .inr ⟨cfg, t0, rfl, ?_⟩
    have outcome := exec_reset_cases h
    by_cases refused : s.mode = .busy ∨ timeModulus cfg ≤ t0
    · rw [if_pos refused] at outcome
      obtain ⟨r, rfl, -⟩ := outcome
      exact (if_pos refused).mpr rfl
    · rw [if_neg refused] at outcome
      exact (if_neg refused).mpr (reset_values_of_restarted outcome)
  · have not_reset : ∀ cfg t0, i ≠ .reset cfg t0 := fun cfg t0 e => hi ⟨cfg, t0, e⟩
    exact .inl ⟨exec_keeps_cfg not_reset h, not_reset⟩

/-! ### Faults (rules R123, R127) -/

/-- Settles O57: of everything an operation can do, only a reset with an invalid record and a `PEEK` of a field without a
value answer with a fault. -/
theorem faultsOnlyByResetAndPeek : Obligations.FaultsOnlyByResetAndPeek := by
  intro i r s t h hr
  cases exec_cases h with
  | answered h =>
    obtain ⟨answer, rfl, hf⟩ := h
    exact absurd hr (hf r)
  | transferred h =>
    obtain ⟨-, a, d, answer, rfl, hf, -⟩ := h
    exact absurd hr (hf r)
  | read q _ h =>
    obtain ⟨-, rfl⟩ := h
    cases hr
  | restarted cfg t0 hi h =>
    obtain ⟨-, -, ⟨-, rfl⟩ | ⟨-, rfl⟩⟩ := h
    · cases hr
    · cases hr
      exact ⟨rfl, .inl ⟨cfg, t0, hi, rfl, rfl⟩⟩
  | ticked _ _ h => subst h; cases hr
  | unwritten f hi _ h =>
    subst h
    cases hr
    exact ⟨rfl, .inr ⟨f, hi, rfl, rfl⟩⟩
  | clocked _ h =>
    obtain ⟨c, o, n, E, answer, rfl, hf, -⟩ := h
    exact absurd hr (hf r)
  | scrolled x _ h => subst h; cases hr
  | chased x _ h => subst h; cases hr

/-! ### Snapshots (rules R18, R22) -/

theorem snapshot_scrollStep (x : Nat) (s : State) (r : InputReg) : (scrollStep x s).snapshot r = s.snapshot r := by
  cases r <;> simp [State.snapshot]

theorem snapshot_chaseStep (x : Nat) (s : State) (r : InputReg) : (chaseStep x s).snapshot r = s.snapshot r := by
  cases r <;> simp [State.snapshot]

/-- Setting the reply leaves the snapshots. -/
theorem snapshot_setReply (s : State) (a : Reply) (r : InputReg) :
    ({ s with reply := a } : State).snapshot r = s.snapshot r := by
  cases r <;> rfl

theorem snapshot_afterTransfer (a d : Byte) (s : State) (r : InputReg) :
    (afterTransfer a d s).snapshot r = s.snapshot r := by
  cases r <;> rfl

/-- Settles O58: a read sets the snapshot of its own register alone, and besides reads only a tick and a reset write any. -/
theorem snapshotsWrittenOnlyByReads : Obligations.SnapshotsWrittenOnlyByReads := by
  intro i s t r h changed
  cases exec_cases h with
  | answered h =>
    obtain ⟨a, rfl, -⟩ := h
    exact absurd (snapshot_setReply s a r) changed
  | transferred h =>
    obtain ⟨-, a, d, q, rfl, -, -⟩ := h
    exact absurd ((snapshot_setReply _ q r).trans (snapshot_afterTransfer a d s r)) changed
  | read q hi h =>
    obtain ⟨-, rfl⟩ := h
    by_cases same : r = q
    · subst same
      rcases hi with hi | hi
      · exact .inr (.inr (.inl hi))
      · exact .inr (.inr (.inr ⟨_, rfl, hi⟩))
    · refine absurd ?_ changed
      rw [snapshot_setReply, State.snapshot_setSnapshot_other _ _ same, snapshot_afterTransfer]
  | restarted cfg t0 hi _ => exact .inl ⟨cfg, t0, hi⟩
  | ticked hi _ _ => exact .inr (.inl hi)
  | unwritten f _ _ h =>
    subst h
    exact absurd (by cases r <;> rfl) changed
  | clocked _ h =>
    obtain ⟨c, o, n, E, a, rfl, -, -⟩ := h
    exact absurd (by cases r <;> rfl) changed
  | scrolled x _ h =>
    subst h
    exact absurd ((snapshot_setReply _ _ r).trans (snapshot_scrollStep x s r)) changed
  | chased x _ h =>
    subst h
    exact absurd ((snapshot_setReply _ _ r).trans (snapshot_chaseStep x s r)) changed

/-! ### The schedulers' state (rules R24, R25, R118) -/

/-- `t` has the cursor and its timestamp of `s`. -/
def KeepsScroll (s t : State) : Prop := t.cursor = s.cursor ∧ t.lastScroll = s.lastScroll

/-- `t` has the lamp index and its timestamp of `s`. -/
def KeepsAnim (s t : State) : Prop := t.animIdx = s.animIdx ∧ t.lastAnim = s.lastAnim

/-- What an operation did to the scheduler state: nothing, one step of one scheduler, or a tick or a reset. -/
theorem exec_scheduler_cases {i : Instr} {s t : State} (h : exec i s = .next t) :
    (KeepsScroll s t ∨ ∃ x, i = .scrollStep x) ∧ (KeepsAnim s t ∨ ∃ x, i = .chaseStep x)
      ∨ i = .tick ∨ ∃ cfg t0, i = .reset cfg t0 := by
  cases exec_cases h with
  | answered h =>
    obtain ⟨a, rfl, -⟩ := h
    exact .inl ⟨.inl ⟨rfl, rfl⟩, .inl ⟨rfl, rfl⟩⟩
  | transferred h =>
    obtain ⟨-, a, d, q, rfl, -, -⟩ := h
    exact .inl ⟨.inl ⟨rfl, rfl⟩, .inl ⟨rfl, rfl⟩⟩
  | read q _ h =>
    obtain ⟨-, rfl⟩ := h
    exact .inl ⟨.inl ⟨State.setSnapshot_cursor .., State.setSnapshot_lastScroll ..⟩,
      .inl ⟨State.setSnapshot_animIdx .., State.setSnapshot_lastAnim ..⟩⟩
  | restarted cfg t0 hi _ => exact .inr (.inr ⟨cfg, t0, hi⟩)
  | ticked hi _ _ => exact .inr (.inl hi)
  | unwritten f _ _ h =>
    subst h
    exact .inl ⟨.inl ⟨rfl, rfl⟩, .inl ⟨rfl, rfl⟩⟩
  | clocked _ h =>
    obtain ⟨c, o, n, E, a, rfl, -, -⟩ := h
    exact .inl ⟨.inl ⟨rfl, rfl⟩, .inl ⟨rfl, rfl⟩⟩
  | scrolled x hi h =>
    subst h
    exact .inl ⟨.inr ⟨x, hi⟩, .inl ⟨scrollStep_animIdx s x, scrollStep_lastAnim s x⟩⟩
  | chased x hi h =>
    subst h
    exact .inl ⟨.inl ⟨chaseStep_cursor s x, chaseStep_lastScroll s x⟩, .inr ⟨x, hi⟩⟩

/-- Settles O59. -/
theorem schedulerStateHasOneWriter : Obligations.SchedulerStateHasOneWriter := by
  intro i s t h
  rcases exec_scheduler_cases h with ⟨scroll, anim⟩ | other
  · refine ⟨fun changed => .inl (scroll.resolve_left ?_), fun changed => .inl (anim.resolve_left ?_)⟩
    · exact fun ⟨cursor, lastScroll⟩ => changed.elim (absurd cursor) (absurd lastScroll)
    · exact fun ⟨animIdx, lastAnim⟩ => changed.elim (absurd animIdx) (absurd lastAnim)
  · exact ⟨fun _ => .inr other, fun _ => .inr other⟩

/-! ### The trace (assumption log 7) -/

/-- Events put in front of the newest-first list lengthen the trace at its end. -/
theorem exists_trace_eq_append {s t : State} {E : List Event} (h : t.events = E ++ s.events) :
    ∃ E : List Event, t.trace = s.trace ++ E := by
  refine ⟨E.reverse, ?_⟩
  rw [State.trace, h, List.reverse_append, State.trace]

/-- Settles O60. -/
theorem traceOnlyGrows : Obligations.TraceOnlyGrows := by
  intro i s t h
  cases exec_cases h with
  | answered h =>
    obtain ⟨a, rfl, -⟩ := h
    exact exists_trace_eq_append (E := []) rfl
  | transferred h =>
    obtain ⟨-, a, d, q, rfl, -, -⟩ := h
    exact exists_trace_eq_append rfl
  | read q _ h =>
    obtain ⟨-, rfl⟩ := h
    exact exists_trace_eq_append (State.setSnapshot_events ..)
  | restarted cfg t0 _ h =>
    obtain ⟨-, -, ⟨-, rfl⟩ | ⟨-, rfl⟩⟩ := h
    · exact exists_trace_eq_append (E := [.dout false, .clk true, .en true]) rfl
    · exact exists_trace_eq_append (E := [.dout false, .clk true, .en true]) rfl
  | ticked _ hm h =>
    rw [h, busily_tickBody hm]
    exact exists_trace_eq_append rfl
  | unwritten f _ _ h =>
    subst h
    exact exists_trace_eq_append (E := []) rfl
  | clocked _ h =>
    obtain ⟨c, o, n, E, a, rfl, -, -⟩ := h
    exact exists_trace_eq_append rfl
  | scrolled x _ h =>
    subst h
    exact exists_trace_eq_append (E := []) (scrollStep_events s x)
  | chased x _ h =>
    subst h
    exact exists_trace_eq_append (E := []) (chaseStep_events s x)

end Sys2Proof.Machine
end

section
/-! Single operations: the two primitives that only listen (spec/40_transport.md rules R69, R71), the buttons and neon bytes bit
by bit (spec/42_views.md rules R90, R91, R94, R95; spec/44_schedulers.md rule R116), the scheduler steps and the text window
(rules R109, R111, R113). -/

namespace Sys2Proof.Machine

/-! ### The primitives -/

theorem exec_readBit (s : State) : exec .readBit s = finish (.bit (readBit s).1) (readBit s).2 := rfl

theorem exec_sampleAck (s : State) : exec .sampleAck s = finish (.bit (readInput s).1) (readInput s).2 := rfl

/-- Settles O14. -/
theorem readBitSamplesAfterOneCycle : Obligations.ReadBitSamplesAfterOneCycle := by
  intro s
  rw [exec_readBit, readBit_eq, finish_eq]

/-- Settles O16: the operation is the draw alone. -/
theorem sampleAckOnlySamples : Obligations.SampleAckOnlySamples := by
  intro s
  rw [exec_sampleAck, readInput_eq, finish_eq]

/-! ### Buttons and neon -/

/-- Settles O33. -/
theorem buttonsViewIsFiveBits : Obligations.ButtonsViewIsFiveBits :=
  ⟨fun b s => exec_decodeButtons s b,
    fun v s => ⟨buttonsEncode s.cfg v, exec_encodeButtons s v, fun _ hi => getLsbD_buttonsEncode s.cfg v hi⟩⟩

theorem getLsbD_neonEncode (c : Cfg) (on : Bool) {i : Nat} (hi : i < 8) :
    (neonEncode c on).getLsbD i = (on && decide (i = c.neonBit)) := getLsbD_bitAt on c.neonBit hi

/-- Settles O35. -/
theorem neonViewIsOneBit : Obligations.NeonViewIsOneBit :=
  ⟨fun b s => exec_decodeNeon s b,
    fun on s => ⟨neonEncode s.cfg on, exec_encodeNeon s on, fun _ hi => getLsbD_neonEncode s.cfg on hi⟩⟩

theorem exec_neonByte (k : Fin 8) (s : State) :
    exec (.neonByte k) s = .next { s with reply := .byte (neonByteOf s.cfg k) } := rfl

/-- Settles O45: the byte is the neon view of `NEON_FN(k)`. -/
theorem neonByteFollowsNeonFn : Obligations.NeonByteFollowsNeonFn := fun k s =>
  ⟨neonByteOf s.cfg k, exec_neonByte k s, fun _ hi => getLsbD_neonEncode s.cfg _ hi⟩

/-! ### The scheduler steps -/

/-- Settles O39. -/
theorem scrollStepAdvancesCursor : Obligations.ScrollStepAdvancesCursor := by
  intro t s
  rw [exec_scrollStep, scrollStep]
  split
  · rfl
  · rfl

theorem exec_chaseStep (t : Nat) (s : State) :
    exec (.chaseStep t) s = .next { chaseStep t s with reply := .done } := rfl

theorem fin_add_one_eq_ofNat (k : Fin 8) : k + 1 = Fin.ofNat 8 ((k : Nat) + 1) := by
  apply Fin.ext
  rw [Fin.val_add, Fin.val_ofNat]
  rfl

/-- Settles O42: the index is a number modulo 8. -/
theorem chaseStepAdvancesIndex : Obligations.ChaseStepAdvancesIndex := by
  intro t s
  rw [exec_chaseStep, chaseStep, fin_add_one_eq_ofNat]
  split
  · rfl
  · rfl

/-! ### The text window -/

theorem exec_render (i : Fin 9) (s : State) :
    exec (.render i) s = .next { s with reply := .byte (renderByte s.cfg s.cursor i) } := rfl

section
variable {c : Cfg} {cursor : Nat} {i : Fin 9}

theorem renderByte_of_text (h : cursor + i < c.text.length) (inside : cursor + i < c.textLen) :
    renderByte c cursor i = c.text[cursor + i] := by
  rw [renderByte, if_pos inside, textByte, List.getD_eq_getElem _ _ h]

theorem renderByte_of_short_text (h : c.text.length ≤ cursor + i) (inside : cursor + i < c.textLen) :
    renderByte c cursor i = Config.freeTextByte (cursor + i) := by
  rw [renderByte, if_pos inside, textByte, List.getD_eq_default _ _ h]

theorem renderByte_of_past_end (past : c.textLen ≤ cursor + i) : renderByte c cursor i = 0x20 := by
  rw [renderByte, if_neg (Nat.not_lt.mpr past), blankByte]

end

/-- Settles O41: the window's three cases. -/
theorem renderShowsTheWindow : Obligations.RenderShowsTheWindow := by
  refine fun i s => ⟨fun h inside => ?_, fun h inside => ?_, fun past => ?_⟩
  · rw [exec_render, renderByte_of_text h inside]
  · rw [exec_render, renderByte_of_short_text h inside]
  · rw [exec_render, renderByte_of_past_end past]

end Sys2Proof.Machine
end

section
/-! `PEEK` (spec/43_poll_cycle.md rule R119): its checks in their order (rules R97, R125; assumption log 8), and what it answers
for a field with a value and for one without (rule R123). -/

namespace Sys2Proof.Machine

theorem exec_peek (f : PeekField) (s : State) : exec (.peek f) s = execPeek f s := rfl

/-! ### The checks in their order -/

section
variable {s : State} {f : PeekField}

theorem mispaired_named_iff {r : RegName} {v : ViewField} : mispaired (.named r v) = true ↔ fieldView v ≠ viewOf r := by
  rw [mispaired, decide_eq_true_eq]

/-- A field is paired where, if it is a named one, it belongs to its register's view. -/
theorem mispaired_eq_false (h : ∀ r v, f = .named r v → fieldView v = viewOf r) : mispaired f = false := by
  cases f with
  | named r v => rw [← Bool.not_eq_true, mispaired_named_iff, not_not, h r v rfl]
  | _ => rfl

theorem execPeek_mispaired (hp : mispaired f = true) : execPeek f s = .next { s with reply := .refused .pairing } := by
  rw [execPeek, if_pos hp, refuse_eq]

theorem execPeek_busy (hp : mispaired f = false) (hb : s.mode = .busy) :
    execPeek f s = .next { s with reply := .refused .notReady } := by
  rw [execPeek, if_neg (by simp [hp]), if_pos hb, refuse_eq]

/-- `S.mode` and `S.fault` outside `BUSY`. -/
theorem execPeek_always {r : Reply} (hp : mispaired f = false) (hb : s.mode ≠ .busy) (h : peekValue s f = .always r) :
    execPeek f s = .next { s with reply := r } := by
  rw [execPeek, if_neg (by simp [hp]), if_neg hb, h]
  exact finish_eq r s

/-- Outside `READY` only those two fields are not refused. -/
theorem execPeek_not_ready (hp : mispaired f = false) (hm : s.mode ≠ .ready) (hmode : f ≠ .mode) (hfault : f ≠ .fault) :
    execPeek f s = .next { s with reply := .refused .notReady } := by
  by_cases hb : s.mode = .busy
  · exact execPeek_busy hp hb
  · rw [execPeek, if_neg (by simp [hp]), if_neg hb]
    cases found : peekValue s f with
    | unlisted => exact whenReady_of_not_ready _ hm
    | always r => exact absurd (peekValue_eq_always found) (not_or.mpr ⟨hmode, hfault⟩)
    | value r => exact whenReady_of_not_ready _ hm
    | noValue => exact whenReady_of_not_ready _ hm

theorem execPeek_value {r : Reply} (hp : mispaired f = false) (hm : s.mode = .ready) (h : peekValue s f = .value r) :
    execPeek f s = .next { s with reply := r } := by
  rw [execPeek, if_neg (by simp [hp]), if_neg (by simp [hm]), h]
  exact whenReady_of_ready _ hm

theorem execPeek_noValue (hp : mispaired f = false) (hm : s.mode = .ready) (h : peekValue s f = .noValue) :
    execPeek f s = .next { s with fault := some .unwritten, mode := .faulted, reply := .faulted .unwritten } := by
  rw [execPeek, if_neg (by simp [hp]), if_neg (by simp [hm]), h]
  exact whenReady_of_ready _ hm

theorem execPeek_unlisted (hp : mispaired f = false) (hm : s.mode = .ready) (h : peekValue s f = .unlisted) :
    execPeek f s = .next { s with reply := .refused .argRange } := by
  rw [execPeek, if_neg (by simp [hp]), if_neg (by simp [hm]), h]
  exact whenReady_of_ready _ hm

end

/-! ### What `PEEK` finds -/

section
variable {s : State}

theorem peekValue_snapshot {r : InputReg} {b : Byte} (h : s.snapshot r = some b) :
    peekValue s (.snapshot r) = .value (.byte b) := by
  rw [peekValue, h, PeekResult.ofOption]

theorem peekValue_named {r : InputReg} {b : Byte} (v : ViewField) (h : s.snapshot r = some b) :
    peekValue s (.named (.input r) v) = .value (namedField s.cfg b v) := by
  rw [peekValue, h, PeekResult.ofOption]

/-- A named field of a written input register, in `READY`. -/
theorem execPeek_named {r : InputReg} {b : Byte} {v : ViewField} (hm : s.mode = .ready) (h : s.snapshot r = some b)
    (paired : mispaired (.named (.input r) v) = false) :
    execPeek (.named (.input r) v) s = .next { s with reply := namedField s.cfg b v } :=
  execPeek_value paired hm (peekValue_named v h)

end

/-! ### The statements -/

/-- Settles O47. -/
theorem peekReadsWrittenFields : Obligations.PeekReadsWrittenFields := by
  refine fun s => ⟨fun hm => ⟨fun r b h => ?_, fun r b hr h => ?_, fun b h => ?_, fun b h => ?_, fun b h => ?_, ?_, ?_⟩,
    fun hb => ⟨?_, ?_⟩⟩
  · exact execPeek_value rfl hm (peekValue_snapshot h)
  · have slider : viewOf (.input r) = .slider := by rcases hr with rfl | rfl | rfl <;> rfl
    exact ⟨execPeek_named hm h (by simp [mispaired, slider, fieldView]),
      execPeek_named hm h (by simp [mispaired, slider, fieldView])⟩
  · exact ⟨execPeek_named hm h rfl, execPeek_named hm h rfl, execPeek_named hm h rfl, execPeek_named hm h rfl,
      execPeek_named hm h rfl⟩
  · exact execPeek_value rfl hm (by rw [peekValue, h, PeekResult.ofOption])
  · exact execPeek_value rfl hm (by rw [peekValue, h, PeekResult.ofOption])
  · exact execPeek_value rfl hm rfl
  · exact execPeek_value rfl hm rfl
  · exact execPeek_always rfl hb rfl
  · exact execPeek_always rfl hb rfl

/-- Settles O48. -/
theorem peekUnwrittenFaults : Obligations.PeekUnwrittenFaults := by
  intro s f hm hf
  rw [exec_peek]
  rcases hf with ⟨r, rfl, h⟩ | ⟨rfl, h⟩ | ⟨rfl, h⟩ | ⟨r, v, rfl, paired, h⟩
  · exact execPeek_noValue rfl hm (by rw [peekValue, h, PeekResult.ofOption])
  · exact execPeek_noValue rfl hm (by rw [peekValue, h, PeekResult.ofOption])
  · exact execPeek_noValue rfl hm (by rw [peekValue, h, PeekResult.ofOption])
  · exact execPeek_noValue (by simp [mispaired, paired]) hm (by rw [peekValue, h, PeekResult.ofOption])

/-- The fields that rule R119 does not list are not found, and no view is asked for. -/
theorem unlisted_fields (s : State) : ∀ f ∈ ([.lastScroll, .lastAnim, .clk, .enN, .dout, .phase, .bitn, .txAddr, .txData, .rx,
    .ack, .seq, .cfg] : List PeekField), mispaired f = false ∧ peekValue s f = .unlisted := by
  simp [mispaired, peekValue]

/-- Settles O49: the pairing is tested first, then the mode, then the set of fields. -/
theorem peekRefusals : Obligations.PeekRefusals := by
  refine fun s => ⟨fun r v unpaired => ?_, fun f paired hb => ?_, fun f paired hmode hfault hm => ?_, fun f hf hm => ?_,
    fun r v paired hm => ?_⟩
  · exact execPeek_mispaired (mispaired_named_iff.mpr unpaired)
  · exact execPeek_busy (mispaired_eq_false paired) hb
  · exact execPeek_not_ready (mispaired_eq_false paired) hm hmode hfault
  · obtain ⟨hp, unlisted⟩ := unlisted_fields s f hf
    exact execPeek_unlisted hp hm unlisted
  · exact execPeek_unlisted (by simp [mispaired, paired]) hm rfl

end Sys2Proof.Machine
end
